-- ==== Sys2Proof/Word.lean ====
section
/-! DEFINITION. The block's words and port records: bytes, 32-bit host words, identifiers and PGN values
(30_encoding.md R85 to R88), CAN frames (R88), host accesses (20_memory.md R60) and the inputs of a step
(10_state.md R20). Plain data, with no meaning of its own. -/

namespace Sys2Proof

/-- A byte, and an 8-bit J1939 address (R11, R115). -/
abbrev Byte := BitVec 8

/-- A 32-bit word of the host port (R60). -/
abbrev Word := BitVec 32

/-- A PGN value in the format PGN18 (R87). -/
abbrev Pgn := BitVec 18

/-- A 29-bit arbitration identifier in the format ID29 (R86). -/
abbrev CanId := BitVec 29

/-- A priority 0..7 (R115). -/
abbrev Prio := BitVec 3

/-- A byte offset in the 4 KiB host window (R60). -/
abbrev Offset := BitVec 12

/-- A CAN frame record (R22, R24, R88). Its dlc is the number of its data bytes; a standard identifier
stands in the low 11 bits. -/
structure Frame where
  ext  : Bool
  id   : CanId
  data : List Byte
  deriving DecidableEq, Repr

/-- The dlc field of a frame record (R88). -/
def Frame.dlc (f : Frame) : Nat := f.data.length

/-- Direction of a host access (R60). -/
inductive Dir where
  | read
  | write
  deriving DecidableEq, Repr

/-- Size of a host access: 1, 2 or 4 bytes (R60). -/
inductive Size where
  | b1
  | b2
  | b4
  deriving DecidableEq, Repr

/-- The number of byte lanes of an access size (R60). -/
def Size.bytes : Size → Nat
  | .b1 => 1
  | .b2 => 2
  | .b4 => 4

/-- One host access, the format HOSTACC (R60). -/
structure Access where
  dir   : Dir
  off   : Offset
  size  : Size
  wdata : Word
  deriving DecidableEq, Repr

/-- What an agent gives the block in one step (R20): a host access, a command word (the same HOST step as a
write of that word to CMD, seen in the format CMD of R98), a received frame, a pace tick, a reset. -/
inductive Input where
  | host (a : Access)
  | cmd (w : Word)
  | rx (f : Frame)
  | pace
  | rst
  deriving DecidableEq, Repr

/-- The answer of the transmit oracle to one `emit` (R24). -/
inductive TxAns where
  | ok
  | err
  deriving DecidableEq, Repr, Inhabited

end Sys2Proof
end

