-- ==== Sys2Proof/Config.lean ====
section
/-! DEFINITION. What an implementation fixes (00_scope.md R8) and the model's one free value, the transmit
oracle's answers (10_state.md R24). -/

namespace Sys2Proof

/-- The OPEN parameters of R8: RX sessions, TX sessions, depth of the paced queue. -/
structure Params where
  nRxSess   : Nat
  nTxSess   : Nat
  bamqDepth : Nat
  deriving DecidableEq, Repr

/-- The ranges R8 gives the parameters. -/
abbrev Params.InRange (p : Params) : Prop :=
  1 ≤ p.nRxSess ∧ p.nRxSess ≤ 65535 ∧ 1 ≤ p.nTxSess ∧ p.nTxSess ≤ 65535 ∧
    255 ≤ p.bamqDepth ∧ p.bamqDepth ≤ 65535

/-- DESIGN CHOICE (unsafe, log entry 3): the values R8 suggests, used by `State.reset` alone. Every statement
about all states holds for every value of the parameters. -/
def Config.suggested : Params := { nRxSess := 16, nTxSess := 16, bamqDepth := 255 }

/-- FREE VALUE (safe, log entry 2): the oracle's answer to a draw for which the environment supplied none.
It has no body, so nothing can be proved of any answer (R24: "under no law: any sequence of results is
possible"). -/
opaque Config.freeAnswer : Nat → TxAns

end Sys2Proof
end

