-- ==== Sys2Proof/Machine/Operands.lean ====
section
/-! DEFINITION. Every operand form of the spec: the protocol constants (00_scope.md R6, R7, R9), the PGN and
arbitration-identifier codec (40_codec.md), the frame constructors (30_encoding.md R88 to R97) and segmentation
(41_pdu_segmentation.md). Pure functions; nothing here reads State. -/

namespace Sys2Proof.Machine

/-! ### Constants -/

/-- MAX_PAYLOAD (R6). -/
abbrev maxPayload : Nat := 1785
/-- SEG_SIZE (R6). -/
abbrev segSize : Nat := 7
/-- SHORT_MAX (R6). -/
abbrev shortMax : Nat := 8
/-- PAD (R6). -/
abbrev padByte : Byte := 0xFF
/-- The max-per-CTS byte of an RTS, reserved in BAM and EOM-ACK (R89, R179). -/
abbrev maxPerCts : Byte := 0xFF
/-- The global destination address (R158, R164). -/
abbrev globalAddr : Byte := 0xFF
/-- PGN_TP_CM (R7). -/
abbrev pgnTpCm : Pgn := 0x0EC00
/-- PGN_TP_DT (R7). -/
abbrev pgnTpDt : Pgn := 0x0EB00
/-- Control byte of RTS (R7). -/
abbrev ctlRts : Byte := 0x10
/-- Control byte of CTS (R7). -/
abbrev ctlCts : Byte := 0x11
/-- Control byte of EOM-ACK (R7). -/
abbrev ctlEomack : Byte := 0x13
/-- Control byte of BAM (R7). -/
abbrev ctlBam : Byte := 0x20
/-- Control byte of Abort (R7). -/
abbrev ctlAbort : Byte := 0xFF
/-- TP_PRIO (R9). -/
abbrev tpPrio : Prio := 7

/-! ### PGN codec -/

/-- R116: `cat(R, DP, PF, PS)`. -/
def pgnPack (r dp : Bool) (pf ps : Byte) : Pgn :=
  BitVec.ofBool r ++ BitVec.ofBool dp ++ pf ++ ps

/-- R117: bit 17. -/
def pgnR (v : Pgn) : Bool := v.getLsbD 17
/-- R117: bit 16. -/
def pgnDp (v : Pgn) : Bool := v.getLsbD 16
/-- R117: bits 15:8. -/
def pgnPf (v : Pgn) : Byte := v.extractLsb' 8 8
/-- R117: bits 7:0. -/
def pgnPs (v : Pgn) : Byte := v.extractLsb' 0 8

/-- R118: PDU1 iff PF < 240 or R = 1 or DP = 1. -/
def isPdu1 (v : Pgn) : Bool :=
  decide ((pgnPf v).toNat < 240) || pgnR v || pgnDp v

/-- `cat(v[17:8], d)`: a PGN with its PS byte replaced (R94, R119, R128, R194). -/
def pgnWithPs (v : Pgn) (d : Byte) : Pgn := v.extractLsb' 8 10 ++ d

/-- R119: the broadcast-form PGN. -/
def pgnNumber (v : Pgn) : Pgn := if isPdu1 v then pgnWithPs v 0 else v

/-! ### Arbitration-identifier codec -/

/-- R120: `cat(P, v, SA)`. -/
def idPack (p : Prio) (v : Pgn) (sa : Byte) : CanId := p ++ v ++ sa

/-- R121: bits 28:26. -/
def idPrio (id : CanId) : Prio := id.extractLsb' 26 3
/-- R121: bits 25:8. -/
def idPgn (id : CanId) : Pgn := id.extractLsb' 8 18
/-- R121: bits 7:0. -/
def idSa (id : CanId) : Byte := id.extractLsb' 0 8
/-- The PS byte, bits 15:8 (R86, R149). -/
def idPs (id : CanId) : Byte := id.extractLsb' 8 8
/-- Bits 25:16, `cat(R, DP, PF)`, by which the intake map classes a frame (R102). -/
def idClass (id : CanId) : BitVec 10 := id.extractLsb' 16 10

/-- R122: the PS byte of a PDU1 identifier, none otherwise. -/
def idDest (id : CanId) : Option Byte :=
  if isPdu1 (idPgn id) then some (idPs id) else none

/-- R130: the identifier with its PS byte replaced. -/
def withDest (id : CanId) (d : Byte) : CanId := id.extractLsb' 16 13 ++ d ++ idSa id

/-! ### Frame constructors -/

/-- R88: an extended frame. -/
def frame (id : CanId) (data : List Byte) : Frame := { ext := true, id := id, data := data }

/-- R95, on emit: `[pgn[7:0], pgn[15:8], zext_8(pgn[17:16])]`. -/
def pgn3 (pgn : Pgn) : List Byte :=
  [pgn.extractLsb' 0 8, pgn.extractLsb' 8 8, (pgn.extractLsb' 16 2).setWidth 8]

/-- R95, on receive: `cat(b7[1:0], b6, b5)`. -/
def pgnOf (b5 b6 b7 : Byte) : Pgn := b7.extractLsb' 0 2 ++ b6 ++ b5

/-- R96, on receive: `cat(b2, b1)`. -/
def lenOf (b1 b2 : Byte) : BitVec 16 := b2 ++ b1

/-- R90: the data of RTS, BAM and EOM-ACK. -/
def cmData (type : Byte) (len : BitVec 16) (nseg : Byte) (pgn : Pgn) : List Byte :=
  [type, len.extractLsb' 0 8, len.extractLsb' 8 8, nseg, maxPerCts] ++ pgn3 pgn

/-- R91: the data of a CTS. -/
def ctsData (count start : Byte) (pgn : Pgn) : List Byte :=
  [ctlCts, count, start, 0xFF, 0xFF] ++ pgn3 pgn

/-- R94: the identifier of every TP frame the block emits. -/
def tpId (base : Pgn) (dst src : Byte) : CanId := idPack tpPrio (pgnWithPs base dst) src

/-! ### Segmentation -/

/-- R137: `ceil(L / 7)`. -/
def nseg (len : Nat) : Nat := (len + 6) / segSize

/-- R138: the payload padded with 0xFF to a multiple of 7 bytes. -/
def tpPad (p : List Byte) : List Byte :=
  p ++ List.replicate (segSize * nseg p.length - p.length) padByte

/-- R136: the chunks of length `n`, the last one possibly shorter. `n = 0` is no legal operand. -/
def segments (bytes : List Byte) (n : Nat) : List (List Byte) :=
  (List.range ((bytes.length + n - 1) / n)).map fun i => (bytes.drop (n * i)).take n

/-- R139: segment `k` of a padded payload, bytes 7(k-1) to 7k-1. -/
def segment (k : Nat) (q : List Byte) : List Byte := (q.drop (segSize * (k - 1))).take segSize

/-- R93: the data of TP.DT frame `k`. -/
def dtData (k : Nat) (q : List Byte) : List Byte := BitVec.ofNat 8 k :: segment k q

/-! ### The frames of R110 -/

/-- R161. -/
def rtsFrame (dst src : Byte) (len : BitVec 16) (n : Byte) (pgn : Pgn) : Frame :=
  frame (tpId pgnTpCm dst src) (cmData ctlRts len n pgn)

/-- R164. -/
def bamFrame (src : Byte) (len : BitVec 16) (n : Byte) (pgn : Pgn) : Frame :=
  frame (tpId pgnTpCm globalAddr src) (cmData ctlBam len n pgn)

/-- R166: TP.DT frame `k` of a transfer to `dst`; R167 with `dst` the global address. -/
def dtFrame (dst src : Byte) (k : Nat) (q : List Byte) : Frame :=
  frame (tpId pgnTpDt dst src) (dtData k q)

/-- R186: the CTS from `dst` back to `src`, granting every segment. -/
def ctsFrame (src dst tseg : Byte) (pgn : Pgn) : Frame :=
  frame (tpId pgnTpCm src dst) (ctsData tseg 1 pgn)

/-- R192: the EOM-ACK from `dst` back to `src`. -/
def eomackFrame (src dst : Byte) (tlen : BitVec 16) (tseg : Byte) (pgn : Pgn) : Frame :=
  frame (tpId pgnTpCm src dst) (cmData ctlEomack tlen tseg pgn)

/-! ### The intake word -/

/-- R102: `ext`, the identifier, and data byte 0 (0x00 where there is none). -/
def intakeWord (f : Frame) : BitVec 38 := BitVec.ofBool f.ext ++ f.id ++ f.data.getD 0 0

/-- Bits 25:16 of a TP.CM identifier: R = 0, DP = 0, PF = 0xEC (R103). -/
abbrev tpCmClass : BitVec 10 := 0x0EC
/-- Bits 25:16 of a TP.DT identifier: R = 0, DP = 0, PF = 0xEB (R103). -/
abbrev tpDtClass : BitVec 10 := 0x0EB

/-- The control bytes the block knows (R104). -/
def knownCtl (b : Byte) : Bool :=
  b == ctlRts || b == ctlCts || b == ctlEomack || b == ctlBam || b == ctlAbort

/-! ### Host accesses -/

/-- R62, R63: whether an access is legal by its offset and size. -/
def accessLegal (off : Offset) (size : Size) : Bool :=
  if off.toNat < 0x800 then decide (size = .b4 ∧ off.toNat % 4 = 0)
  else decide (off.toNat % size.bytes = 0)

/-- R61: the register offsets at which a write does something. -/
def writableOffsets : List Nat :=
  [0x000, 0x004, 0x008, 0x00C, 0x014, 0x018, 0x01C, 0x020, 0x040, 0x044, 0x048,
   0x060, 0x064, 0x068, 0x06C, 0x070, 0x074, 0x078, 0x07C]

/-- R69: lane `k` of a host word, bits 8k+7:8k. -/
def lane (w : Word) (k : Nat) : Byte := w.extractLsb' (8 * k) 8

/-- R69: the host word whose lane 0 is the first byte; lanes beyond the list read 0 (R63). -/
def lanesWord : List Byte → Word
  | [] => 0
  | b :: bs => (lanesWord bs <<< 8) ||| b.setWidth 32

/-- R63: the TXBUF index of a host offset in 0x800..0xEF8, none outside. -/
def txbufIndex (off : Nat) : Option Nat :=
  if 0x800 ≤ off ∧ off ≤ 0xEF8 then some (off - 0x800) else none

end Sys2Proof.Machine
end

