-- ==== Sys2Proof/Syntax.lean ====
section
/-! DEFINITION. The instructions: one constructor per row of spec/opcode_table.json, in the table's order, with
the operands its rule reads. -/

namespace Sys2Proof

inductive Instr where
  -- CMD: host commands (30_encoding.md R99); their operands are the argument registers (R98)
  | nop
  | buildId
  | setDest
  | send
  | reservedCmd4
  | reservedCmd5
  | reservedCmd6
  | reservedCmd7
  | reservedCmd8
  | reservedCmd9
  | reservedCmdA
  | reservedCmdB
  | reservedCmdC
  | reservedCmdD
  | reservedCmdE
  | reservedCmdF
  -- IW: received frames (30_encoding.md R103)
  | rxStd (id : BitVec 11) (data : List Byte)
  | rxCmBadlen (prio : Prio) (dst src : Byte) (data : List Byte)
  | rxRts (prio : Prio) (dst src : Byte) (tlen : BitVec 16) (tseg : Byte) (pgn : Pgn)
  | rxCts (prio : Prio) (dst src count start : Byte)
  | rxEomack (prio : Prio) (dst src : Byte)
  | rxBam (prio : Prio) (dst src : Byte) (tlen : BitVec 16) (tseg : Byte) (pgn : Pgn)
  | rxAbort (prio : Prio) (dst src : Byte)
  | rxCmOther (prio : Prio) (dst src ctl : Byte)
  | rxDt (prio : Prio) (dst src : Byte) (data : List Byte)
  | rxPass (id : CanId) (data : List Byte)
  -- PACE and RST (10_state.md R25, R28)
  | paceTick
  | reset
  -- HOST_WRITE (20_memory.md R61)
  | wCtrl (wdata : Word)
  | wStatus (wdata : Word)
  | wIe (wdata : Word)
  | wCmd (wdata : Word)
  | wArgId (wdata : Word)
  | wArgPgn (wdata : Word)
  | wArgAddr (wdata : Word)
  | wArgLen (wdata : Word)
  | wPvCnt (wdata : Word)
  | wTxerrCnt (wdata : Word)
  | wDropCnt (wdata : Word)
  | wClaimed0 (wdata : Word)
  | wClaimed1 (wdata : Word)
  | wClaimed2 (wdata : Word)
  | wClaimed3 (wdata : Word)
  | wClaimed4 (wdata : Word)
  | wClaimed5 (wdata : Word)
  | wClaimed6 (wdata : Word)
  | wClaimed7 (wdata : Word)
  | wTxbuf (off : Offset) (size : Size) (wdata : Word)
  | wRegOther (off : Offset) (wdata : Word)
  -- HOST_READ and HOST_ANY (20_memory.md R62, R63, R65)
  | rReg (off : Offset)
  | rTxbuf (off : Offset) (size : Size)
  | hostIllegal (dir : Dir) (off : Offset) (size : Size) (wdata : Word)
  -- EMIT_IW: the frames the block emits (30_encoding.md R110); dst and src are the emitted frame's own PS and SA
  | txShort (id : CanId) (data : List Byte)
  | txRts (dst src : Byte) (len : BitVec 16) (nseg : Byte) (pgn : Pgn)
  | txBam (src : Byte) (len : BitVec 16) (nseg : Byte) (pgn : Pgn)
  | txDtRts (dst src seq : Byte) (seg : List Byte)
  | txDtBam (src seq : Byte) (seg : List Byte)
  | txCts (dst src tseg : Byte) (pgn : Pgn)
  | txEomack (dst src : Byte) (tlen : BitVec 16) (tseg : Byte) (pgn : Pgn)
  -- FUNC: the combinational functions (40_codec.md, 41_pdu_segmentation.md)
  | pgnPack (r dp : Bool) (pf ps : Byte)
  | pgnFields (v : Pgn)
  | isPdu1 (v : Pgn)
  | pgnNumber (v : Pgn)
  | idPack (prio : Prio) (v : Pgn) (sa : Byte)
  | idUnpack (id : CanId)
  | idDest (id : CanId)
  | withDest (id : CanId) (dest : Byte)
  | segments (bytes : List Byte) (n : Nat)
  | nseg (len : Nat)
  | tpPad (bytes : List Byte)
  deriving DecidableEq, Repr

end Sys2Proof
end

