-- ==== Sys2Proof/Decode.lean ====
section
/-! DEFINITION. The decoder of what an agent gives the block (host accesses, command words, received frames, ticks,
resets), the decoder of emitted frames, and after them the encoders, written from the same tables of
30_encoding.md and 20_memory.md. Total: every record a port may carry decodes (R114), and the two kinds of record no
port carries are rejected by name (U14, log entry 11). -/

namespace Sys2Proof

open Machine

/-- Why a record is no input of the block (R22, U14). -/
inductive DecodeError where
  /-- More than 8 data bytes: "a DLC code above 8 is delivered as dlc = 8" by the platform (R22). -/
  | frameTooLong
  /-- A standard identifier of more than 11 bits (R22: `id[28:11] = 0`). -/
  | stdIdTooWide
  deriving DecidableEq, Repr

/-! ### Command words -/

/-- R99: the command of an OPC. -/
def decodeOpc : Nat → Instr
  | 0x0 => .nop
  | 0x1 => .buildId
  | 0x2 => .setDest
  | 0x3 => .send
  | 0x4 => .reservedCmd4
  | 0x5 => .reservedCmd5
  | 0x6 => .reservedCmd6
  | 0x7 => .reservedCmd7
  | 0x8 => .reservedCmd8
  | 0x9 => .reservedCmd9
  | 0xA => .reservedCmdA
  | 0xB => .reservedCmdB
  | 0xC => .reservedCmdC
  | 0xD => .reservedCmdD
  | 0xE => .reservedCmdE
  | _ => .reservedCmdF

/-- The OPC field of a CMD word (R98): bits 3:0; bits 31:4 are ignored. -/
def opcOf (w : Word) : BitVec 4 := w.extractLsb' 0 4

/-- R98, R99. -/
def decodeCmd (w : Word) : Instr := decodeOpc (opcOf w).toNat

/-! ### Received frames -/

/-- The kinds of the intake map (R103). -/
inductive IntakeKind where
  | std | cmBadlen | rts | cts | eomack | bam | abort | cmOther | dt | pass
  deriving DecidableEq, Repr

/-- The extra condition of a row of the intake map (R103). -/
inductive DlcCond where
  | any | eq8 | ne8
  deriving DecidableEq, Repr

/-- One row of R103: the intake word matches where `IW &&& mask = pat`. -/
structure IntakeRow where
  kind : IntakeKind
  pat  : BitVec 38
  mask : BitVec 38
  cond : DlcCond
  deriving DecidableEq, Repr

/-- R103, "tried top to bottom; the first row that matches classifies the frame". -/
def intakeMap : List IntakeRow :=
  [⟨.std,      0x0000000000, 0x2000000000, .any⟩,
   ⟨.cmBadlen, 0x20EC000000, 0x23FF000000, .ne8⟩,
   ⟨.rts,      0x20EC000010, 0x23FF0000FF, .eq8⟩,
   ⟨.cts,      0x20EC000011, 0x23FF0000FF, .eq8⟩,
   ⟨.eomack,   0x20EC000013, 0x23FF0000FF, .eq8⟩,
   ⟨.bam,      0x20EC000020, 0x23FF0000FF, .eq8⟩,
   ⟨.abort,    0x20EC0000FF, 0x23FF0000FF, .eq8⟩,
   ⟨.cmOther,  0x20EC000000, 0x23FF000000, .eq8⟩,
   ⟨.dt,       0x20EB000000, 0x23FF000000, .any⟩,
   ⟨.pass,     0x2000000000, 0x2000000000, .any⟩]

/-- Whether a frame's dlc meets a row's extra condition. -/
def DlcCond.holds : DlcCond → Nat → Bool
  | .any, _ => true
  | .eq8, n => n == 8
  | .ne8, n => n != 8

/-- Whether a row of R103 matches a frame. -/
def rowMatches (f : Frame) (r : IntakeRow) : Bool :=
  (intakeWord f &&& r.mask == r.pat) && r.cond.holds f.dlc

/-- R103: the kind of the first matching row. The rows for standard and for other extended frames cover every
frame (R114), so the last case is never the answer of the map itself. -/
def classify (f : Frame) : IntakeKind :=
  match intakeMap.find? (rowMatches f) with
  | some r => r.kind
  | none => .pass

/-- Data byte `k` of a frame of which the rule knows that it has one. -/
def byteAt (f : Frame) (k : Nat) : Byte := f.data.getD k 0

/-- The instruction of a frame of a given kind, its operands pulled out as R95 to R97 and R149 say. -/
def frameInstr (f : Frame) : IntakeKind → Instr
  | .std => .rxStd (f.id.setWidth 11) f.data
  | .cmBadlen => .rxCmBadlen (idPrio f.id) (idPs f.id) (idSa f.id) f.data
  | .rts => .rxRts (idPrio f.id) (idPs f.id) (idSa f.id) (lenOf (byteAt f 1) (byteAt f 2)) (byteAt f 3)
      (pgnOf (byteAt f 5) (byteAt f 6) (byteAt f 7))
  | .cts => .rxCts (idPrio f.id) (idPs f.id) (idSa f.id) (byteAt f 1) (byteAt f 2)
  | .eomack => .rxEomack (idPrio f.id) (idPs f.id) (idSa f.id)
  | .bam => .rxBam (idPrio f.id) (idPs f.id) (idSa f.id) (lenOf (byteAt f 1) (byteAt f 2)) (byteAt f 3)
      (pgnOf (byteAt f 5) (byteAt f 6) (byteAt f 7))
  | .abort => .rxAbort (idPrio f.id) (idPs f.id) (idSa f.id)
  | .cmOther => .rxCmOther (idPrio f.id) (idPs f.id) (idSa f.id) (byteAt f 0)
  | .dt => .rxDt (idPrio f.id) (idPs f.id) (idSa f.id) f.data
  | .pass => .rxPass f.id f.data

/-- R145: the intake decoder. -/
def decodeFrame (f : Frame) : Except DecodeError Instr :=
  if 8 < f.data.length then .error .frameTooLong
  else if f.ext = false ∧ 0x800 ≤ f.id.toNat then .error .stdIdTooWide
  else .ok (frameInstr f (classify f))

/-! ### Host accesses -/

/-- R61: a legal register write by its offset. -/
def decodeRegWrite (off : Offset) (wdata : Word) : Instr :=
  match off.toNat with
  | 0x000 => .wCtrl wdata
  | 0x004 => .wStatus wdata
  | 0x008 => .wIe wdata
  | 0x00C => .wCmd wdata
  | 0x014 => .wArgId wdata
  | 0x018 => .wArgPgn wdata
  | 0x01C => .wArgAddr wdata
  | 0x020 => .wArgLen wdata
  | 0x040 => .wPvCnt wdata
  | 0x044 => .wTxerrCnt wdata
  | 0x048 => .wDropCnt wdata
  | 0x060 => .wClaimed0 wdata
  | 0x064 => .wClaimed1 wdata
  | 0x068 => .wClaimed2 wdata
  | 0x06C => .wClaimed3 wdata
  | 0x070 => .wClaimed4 wdata
  | 0x074 => .wClaimed5 wdata
  | 0x078 => .wClaimed6 wdata
  | 0x07C => .wClaimed7 wdata
  | _ => .wRegOther off wdata

/-- R62, R63: the row of a host access. -/
def decodeAccess (a : Access) : Instr :=
  if accessLegal a.off a.size = false then .hostIllegal a.dir a.off a.size a.wdata
  else if a.off.toNat < 0x800 then
    match a.dir with
    | .read => .rReg a.off
    | .write => decodeRegWrite a.off a.wdata
  else
    match a.dir with
    | .read => .rTxbuf a.off a.size
    | .write => .wTxbuf a.off a.size a.wdata

/-! ### The decoder -/

/-- What an input of a step is. -/
def decode : Input → Except DecodeError Instr
  | .host a => .ok (decodeAccess a)
  | .cmd w => .ok (decodeCmd w)
  | .rx f => decodeFrame f
  | .pace => .ok .paceTick
  | .rst => .ok .reset

/-! ### Emitted frames -/

/-- The kinds of the EMIT_IW rows of the opcode table (R110). -/
inductive EmitKind where
  | rts | bam | cts | eomack | dtBam | dtRts | short
  deriving DecidableEq, Repr

/-- One EMIT_IW row; every TP frame has dlc 8 (R106). -/
structure EmitRow where
  kind : EmitKind
  pat  : BitVec 38
  mask : BitVec 38
  deriving DecidableEq, Repr

/-- The EMIT_IW rows that have a pattern; TX_DT_BAM before TX_DT_RTS, which contains it. -/
def emitMap : List EmitRow :=
  [⟨.rts,    0x3CEC000010, 0x3FFF0000FF⟩,
   ⟨.bam,    0x3CECFF0020, 0x3FFFFF00FF⟩,
   ⟨.cts,    0x3CEC000011, 0x3FFF0000FF⟩,
   ⟨.eomack, 0x3CEC000013, 0x3FFF0000FF⟩,
   ⟨.dtBam,  0x3CEBFF0000, 0x3FFFFF0000⟩,
   ⟨.dtRts,  0x3CEB000000, 0x3FFF000000⟩]

/-- Which emitted frame a frame on CAN_TX is; a frame of no TP row is a short PDU (R110). -/
def classifyEmitted (f : Frame) : EmitKind :=
  match emitMap.find? (fun r => (intakeWord f &&& r.mask == r.pat) && f.dlc == 8) with
  | some r => r.kind
  | none => .short

/-- The EMIT_IW row of a frame on CAN_TX, its operands pulled out. -/
def decodeEmitted (f : Frame) : Instr :=
  match classifyEmitted f with
  | .rts => .txRts (idPs f.id) (idSa f.id) (lenOf (byteAt f 1) (byteAt f 2)) (byteAt f 3)
      (pgnOf (byteAt f 5) (byteAt f 6) (byteAt f 7))
  | .bam => .txBam (idSa f.id) (lenOf (byteAt f 1) (byteAt f 2)) (byteAt f 3)
      (pgnOf (byteAt f 5) (byteAt f 6) (byteAt f 7))
  | .cts => .txCts (idPs f.id) (idSa f.id) (byteAt f 1) (pgnOf (byteAt f 5) (byteAt f 6) (byteAt f 7))
  | .eomack => .txEomack (idPs f.id) (idSa f.id) (lenOf (byteAt f 1) (byteAt f 2)) (byteAt f 3)
      (pgnOf (byteAt f 5) (byteAt f 6) (byteAt f 7))
  | .dtBam => .txDtBam (idSa f.id) (byteAt f 0) (f.data.drop 1)
  | .dtRts => .txDtRts (idPs f.id) (idSa f.id) (byteAt f 0) (f.data.drop 1)
  | .short => .txShort f.id f.data

/-! ### The words of opcode_table.json as numbers -/

/-- Byte `k` of a number, byte 0 the lowest. -/
def natByte (w k : Nat) : Byte := BitVec.ofNat 8 (w >>> (8 * k))

/-- The frame of an intake word (R102) with data bytes 1 to 7 in bits 47:40 to 95:88. The intake word holds no
dlc: it is 8, or 1 where the two bits above the intake word are not zero (log entry 8). -/
def tableFrame (w : Nat) : Frame :=
  { ext := w.testBit 37
    id := BitVec.ofNat 29 (w >>> 8)
    data := if (w >>> 38) % 4 = 0 then natByte w 0 :: (List.range 7).map (fun k => natByte w (k + 5))
      else [natByte w 0] }

/-- The host access of a number: off 11:0, read 12, size 14:13 (0 for 4 bytes, 1, 2), wdata from bit 16 (log
entry 8). -/
def tableAccess (w : Nat) : Access :=
  { dir := if w.testBit 12 then .read else .write
    off := BitVec.ofNat 12 w
    size := match (w >>> 13) % 4 with
      | 1 => .b1
      | 2 => .b2
      | _ => .b4
    wdata := BitVec.ofNat 32 (w >>> 16) }

/-- The access of a HOST_ANY number, whose fields off 11:0 and wdata 31:0 overlap: the size is one the offset makes
illegal where there is one (log entry 8). -/
def tableIllegal (w : Nat) : Access :=
  { dir := .write
    off := BitVec.ofNat 12 w
    size := if w % 4096 < 0x800 then .b1 else .b4
    wdata := BitVec.ofNat 32 w }

/-- The input of a table row's bits, by how many bytes the table gives the row: none for PACE and RST, one for CMD,
two for a host access, four for HOST_ANY, five for an intake word (R102), more for one of these with its operand
bits (log entry 8). -/
def tableInput (nbits w : Nat) : Option Input :=
  match nbits with
  | 0 => some (if w = 0 then .pace else .rst)
  | 8 => some (.cmd (BitVec.ofNat 32 w))
  | 16 => some (.host (tableAccess w))
  | 32 => some (.host (tableIllegal w))
  | 40 => some (.rx (tableFrame w))
  | 48 => some (.host (tableAccess w))
  | 96 => some (.rx (tableFrame w))
  | _ => none

/-- The instruction the decoder reads from a table row's bits. -/
def decodeTableWord (nbits w : Nat) : Option Instr :=
  match tableInput nbits w with
  | some i => (decode i).toOption
  | none => none

/-! ### The encoders -/

/-- The identifier of a received TP frame: any priority, the class bits, destination, source (R103, R149). -/
def rxId (prio : Prio) (cls : BitVec 10) (dst src : Byte) : CanId := prio ++ cls ++ dst ++ src

/-- A host access as an input. -/
def hostInput (dir : Dir) (off : Offset) (size : Size) (wdata : Word) : Option Input :=
  some (.host { dir := dir, off := off, size := size, wdata := wdata })

/-- The input that carries an instruction; none for the rows no agent gives (EMIT_IW, FUNC). Bytes the block does
not read are filled as J1939-21 fills them (log entry 13). -/
def encode : Instr → Option Input
  | .nop => some (.cmd 0x0)
  | .buildId => some (.cmd 0x1)
  | .setDest => some (.cmd 0x2)
  | .send => some (.cmd 0x3)
  | .reservedCmd4 => some (.cmd 0x4)
  | .reservedCmd5 => some (.cmd 0x5)
  | .reservedCmd6 => some (.cmd 0x6)
  | .reservedCmd7 => some (.cmd 0x7)
  | .reservedCmd8 => some (.cmd 0x8)
  | .reservedCmd9 => some (.cmd 0x9)
  | .reservedCmdA => some (.cmd 0xA)
  | .reservedCmdB => some (.cmd 0xB)
  | .reservedCmdC => some (.cmd 0xC)
  | .reservedCmdD => some (.cmd 0xD)
  | .reservedCmdE => some (.cmd 0xE)
  | .reservedCmdF => some (.cmd 0xF)
  | .rxStd id data => some (.rx { ext := false, id := id.setWidth 29, data := data })
  | .rxCmBadlen prio dst src data => some (.rx (frame (rxId prio tpCmClass dst src) data))
  | .rxRts prio dst src tlen tseg pgn =>
    some (.rx (frame (rxId prio tpCmClass dst src) (cmData ctlRts tlen tseg pgn)))
  | .rxCts prio dst src count start =>
    some (.rx (frame (rxId prio tpCmClass dst src) (ctsData count start 0)))
  | .rxEomack prio dst src => some (.rx (frame (rxId prio tpCmClass dst src) (cmData ctlEomack 0 0 0)))
  | .rxBam prio dst src tlen tseg pgn =>
    some (.rx (frame (rxId prio tpCmClass dst src) (cmData ctlBam tlen tseg pgn)))
  | .rxAbort prio dst src =>
    some (.rx (frame (rxId prio tpCmClass dst src) [ctlAbort, 0xFF, 0xFF, 0xFF, 0xFF, 0x00, 0x00, 0x00]))
  | .rxCmOther prio dst src ctl =>
    some (.rx (frame (rxId prio tpCmClass dst src) [ctl, 0xFF, 0xFF, 0xFF, 0xFF, 0x00, 0x00, 0x00]))
  | .rxDt prio dst src data => some (.rx (frame (rxId prio tpDtClass dst src) data))
  | .rxPass id data => some (.rx (frame id data))
  | .paceTick => some .pace
  | .reset => some .rst
  | .wCtrl w => hostInput .write 0x000 .b4 w
  | .wStatus w => hostInput .write 0x004 .b4 w
  | .wIe w => hostInput .write 0x008 .b4 w
  | .wCmd w => hostInput .write 0x00C .b4 w
  | .wArgId w => hostInput .write 0x014 .b4 w
  | .wArgPgn w => hostInput .write 0x018 .b4 w
  | .wArgAddr w => hostInput .write 0x01C .b4 w
  | .wArgLen w => hostInput .write 0x020 .b4 w
  | .wPvCnt w => hostInput .write 0x040 .b4 w
  | .wTxerrCnt w => hostInput .write 0x044 .b4 w
  | .wDropCnt w => hostInput .write 0x048 .b4 w
  | .wClaimed0 w => hostInput .write 0x060 .b4 w
  | .wClaimed1 w => hostInput .write 0x064 .b4 w
  | .wClaimed2 w => hostInput .write 0x068 .b4 w
  | .wClaimed3 w => hostInput .write 0x06C .b4 w
  | .wClaimed4 w => hostInput .write 0x070 .b4 w
  | .wClaimed5 w => hostInput .write 0x074 .b4 w
  | .wClaimed6 w => hostInput .write 0x078 .b4 w
  | .wClaimed7 w => hostInput .write 0x07C .b4 w
  | .wTxbuf off size w => hostInput .write off size w
  | .wRegOther off w => hostInput .write off .b4 w
  | .rReg off => hostInput .read off .b4 0
  | .rTxbuf off size => hostInput .read off size 0
  | .hostIllegal dir off size w => hostInput dir off size w
  | .txShort _ _ => none
  | .txRts _ _ _ _ _ => none
  | .txBam _ _ _ _ => none
  | .txDtRts _ _ _ _ => none
  | .txDtBam _ _ _ => none
  | .txCts _ _ _ _ => none
  | .txEomack _ _ _ _ _ => none
  | .pgnPack _ _ _ _ => none
  | .pgnFields _ => none
  | .isPdu1 _ => none
  | .pgnNumber _ => none
  | .idPack _ _ _ => none
  | .idUnpack _ => none
  | .idDest _ => none
  | .withDest _ _ => none
  | .segments _ _ => none
  | .nseg _ => none
  | .tpPad _ => none

/-- The frame on CAN_TX of an EMIT_IW row (R110). -/
def encodeEmitted : Instr → Option Frame
  | .txShort id data => some (frame id data)
  | .txRts dst src len n pgn => some (rtsFrame dst src len n pgn)
  | .txBam src len n pgn => some (bamFrame src len n pgn)
  | .txDtRts dst src seq seg => some (frame (tpId pgnTpDt dst src) (seq :: seg))
  | .txDtBam src seq seg => some (frame (tpId pgnTpDt globalAddr src) (seq :: seg))
  | .txCts dst src tseg pgn => some (ctsFrame dst src tseg pgn)
  | .txEomack dst src tlen tseg pgn => some (eomackFrame dst src tlen tseg pgn)
  | .nop => none
  | .buildId => none
  | .setDest => none
  | .send => none
  | .reservedCmd4 => none
  | .reservedCmd5 => none
  | .reservedCmd6 => none
  | .reservedCmd7 => none
  | .reservedCmd8 => none
  | .reservedCmd9 => none
  | .reservedCmdA => none
  | .reservedCmdB => none
  | .reservedCmdC => none
  | .reservedCmdD => none
  | .reservedCmdE => none
  | .reservedCmdF => none
  | .rxStd _ _ => none
  | .rxCmBadlen _ _ _ _ => none
  | .rxRts _ _ _ _ _ _ => none
  | .rxCts _ _ _ _ _ => none
  | .rxEomack _ _ _ => none
  | .rxBam _ _ _ _ _ _ => none
  | .rxAbort _ _ _ => none
  | .rxCmOther _ _ _ _ => none
  | .rxDt _ _ _ _ => none
  | .rxPass _ _ => none
  | .paceTick => none
  | .reset => none
  | .wCtrl _ => none
  | .wStatus _ => none
  | .wIe _ => none
  | .wCmd _ => none
  | .wArgId _ => none
  | .wArgPgn _ => none
  | .wArgAddr _ => none
  | .wArgLen _ => none
  | .wPvCnt _ => none
  | .wTxerrCnt _ => none
  | .wDropCnt _ => none
  | .wClaimed0 _ => none
  | .wClaimed1 _ => none
  | .wClaimed2 _ => none
  | .wClaimed3 _ => none
  | .wClaimed4 _ => none
  | .wClaimed5 _ => none
  | .wClaimed6 _ => none
  | .wClaimed7 _ => none
  | .wTxbuf _ _ _ => none
  | .wRegOther _ _ => none
  | .rReg _ => none
  | .rTxbuf _ _ => none
  | .hostIllegal _ _ _ _ => none
  | .pgnPack _ _ _ _ => none
  | .pgnFields _ => none
  | .isPdu1 _ => none
  | .pgnNumber _ => none
  | .idPack _ _ _ => none
  | .idUnpack _ => none
  | .idDest _ => none
  | .withDest _ _ => none
  | .segments _ _ => none
  | .nseg _ => none
  | .tpPad _ => none

end Sys2Proof
end

