-- ==== Sys2Proof/Machine/State.lean ====
section
/-! DEFINITION. The state of the block (10_state.md R29), the records on its ports (R21 to R28), why a step stops, and
the state after reset (R57, R245). Plain data. -/

namespace Sys2Proof.Machine

/-- RESULT.CODE (30_encoding.md R101); codes 8 to 15 are never written, so they have no constructor. -/
inductive ResultCode where
  | ok
  | invalidOp
  | dataTooLarge
  | txErr
  | busy
  | queueFull
  | disabled
  | illegalCmd
  deriving DecidableEq, Repr

/-- Which announcement opened an RX session (R50). -/
inductive SessKind where
  | rts
  | bam
  deriving DecidableEq, Repr

/-- An entry of RXS (R50). -/
structure RxEntry where
  kind : SessKind
  prio : Prio
  tlen : BitVec 16
  tseg : Byte
  pgn  : Pgn
  buf  : List Byte
  deriving DecidableEq, Repr

/-- An entry of TXS (R52). -/
structure TxEntry where
  len  : Nat
  nseg : Nat
  pgn  : Pgn
  segs : List Byte
  deriving DecidableEq, Repr

/-- The kind of a PDU record (R23). -/
inductive PduKind where
  | frame
  | tp
  deriving DecidableEq, Repr

/-- A record on PDU_OUT (R23, R107). -/
structure PduRec where
  kind : PduKind
  id   : CanId
  len  : Nat
  data : List Byte
  deriving DecidableEq, Repr

/-- A frame on CAN_TX with the oracle's answer (R24). Whether a frame answered ERR reached the bus is open (U4). -/
structure TxRec where
  frame : Frame
  ans   : TxAns
  deriving DecidableEq, Repr

/-- The response code of a host access (R60). -/
inductive Resp where
  | okay
  | error
  deriving DecidableEq, Repr

/-- The response to a host access: a read returns rdata and resp, a write resp alone (R60). -/
structure HostRsp where
  resp  : Resp
  rdata : Option Word
  deriving DecidableEq, Repr

/-- The value of a combinational function (R15). -/
inductive FuncVal where
  | pgn (v : Pgn)
  | fields (r dp : Bool) (pf ps : Byte)
  | bit (b : Bool)
  | id (id : CanId)
  | unpacked (prio : Prio) (v : Pgn) (sa : Byte)
  | dest (d : Option Byte)
  | chunks (cs : List (List Byte))
  | count (n : Nat)
  | bytes (bs : List Byte)
  deriving DecidableEq, Repr

/-- What leaves the block in a step: a response on HOST, a frame on CAN_TX, a record on PDU_OUT (R21), or the value of
a combinational function (log entry 10). -/
inductive PortOut where
  | host (r : HostRsp)
  | tx (r : TxRec)
  | pdu (p : PduRec)
  | func (v : FuncVal)
  deriving DecidableEq, Repr

/-- The MODEL's own record of what stands outside the block (R59; log entries 1, 2, 4, 10): what the agents will
give next, the oracle's next answers and how many were drawn, and what has left the ports, oldest first, in the order
of the steps and within a step in the order of its rule (R79, R80). -/
structure Env where
  inputs  : List Input
  answers : List TxAns
  draws   : Nat
  outs    : List PortOut
  deriving DecidableEq, Repr

/-- The state of the block (R29). A reserved bit has no storage (R62, R65, R66); bit 31 of CLAIMED7 is hardwired 0 and has
none either (R40). `txbuf` lists the bytes of TXBUF the host has written, by index, so that its indexes are TXBUF_W
(R49, log entry 5). `rxs` and `txs` are keyed by `pairKey` (R50, R52, log entry 6). `params` (R8, log entry 3) and
`env` are the model's own. -/
structure State where
  /-- CTRL.EN (R32) -/
  en : Bool
  /-- CTRL.IGN_TXERR (R32) -/
  ignTxerr : Bool
  /-- STATUS.TXERR (R33) -/
  txerr : Bool
  /-- STATUS.PV (R33) -/
  pv : Bool
  /-- IE.TXERR_IE (R34) -/
  txerrIe : Bool
  /-- IE.PV_IE (R34) -/
  pvIe : Bool
  /-- RESULT.CODE (R36) -/
  result : ResultCode
  /-- ARG_ID.ID (R37) -/
  argId : CanId
  /-- ARG_PGN.PGN (R38) -/
  argPgn : Pgn
  /-- ARG_ADDR.PRIO (R39) -/
  argPrio : Prio
  /-- ARG_ADDR.SRC (R39) -/
  argSrc : Byte
  /-- ARG_ADDR.DEST (R39) -/
  argDest : Byte
  /-- ARG_ADDR.DEST_PRESENT (R39) -/
  argDestPresent : Bool
  /-- ARG_LEN.LEN (R41) -/
  argLen : BitVec 11
  /-- PV_CNT (R46) -/
  pvCnt : BitVec 32
  /-- TXERR_CNT (R46) -/
  txerrCnt : BitVec 32
  /-- DROP_CNT (R46) -/
  dropCnt : BitVec 32
  /-- CLAIMED0 (R40) -/
  claimed0 : BitVec 32
  /-- CLAIMED1 (R40) -/
  claimed1 : BitVec 32
  /-- CLAIMED2 (R40) -/
  claimed2 : BitVec 32
  /-- CLAIMED3 (R40) -/
  claimed3 : BitVec 32
  /-- CLAIMED4 (R40) -/
  claimed4 : BitVec 32
  /-- CLAIMED5 (R40) -/
  claimed5 : BitVec 32
  /-- CLAIMED6 (R40) -/
  claimed6 : BitVec 32
  /-- CLAIMED7 without its hardwired bit 31 (R40) -/
  claimed7 : BitVec 31
  /-- TXBUF and TXBUF_W (R49) -/
  txbuf : List Host.Cell
  /-- RXS (R50) -/
  rxs : List (Nat × RxEntry)
  /-- TXS (R52) -/
  txs : List (Nat × TxEntry)
  /-- BAMQ, oldest first (R54) -/
  bamq : List Frame
  /-- N_RX_SESS, N_TX_SESS, BAMQ_DEPTH (R8) -/
  params : Params
  /-- The model's own record of the ports -/
  env : Env
  deriving DecidableEq, Repr

/-- The model faults (R231: "There are exactly these"). -/
inductive Fault where
  /-- Raised by SEND and by a host read of TXBUF that would use byte `i`, which the host has not written since
  reset (R63, R156, R231). Safe: the hardware goes on with a byte the spec leaves unspecified. -/
  | unwrittenTxbuf (i : Nat)
  deriving DecidableEq, Repr

/-- Why a step has no meaning. -/
inductive Refusal where
  /-- Raised by an arm of `exec` whose instruction has no meaning yet; no arm is left. Safe. -/
  | notModelled (mnemonic : String)
  /-- Raised by `step` on a record no port carries (R22, U14, log entry 11). Safe: no step of the hardware
  delivers it. -/
  | badInput (why : DecodeError)
  /-- Raised by `segments` with n = 0, "not a legal operand" (R136, log entry 16). Safe: the block never uses it. -/
  | segmentLengthZero
  deriving DecidableEq, Repr

/-- The outcome of a step of the block. -/
abbrev Out := Host.Outcome State Fault Refusal

/-- The ports before the first step: nothing pending, nothing answered, nothing out (log entries 1, 2, 4, 10: the
model's own choice). -/
def Env.start : Env :=
  { inputs := [], answers := [], draws := 0, outs := [] }

/-- The reset values of R57. The parameters are the model's choice (log entry 3). -/
def State.reset : State :=
  { en := false
    ignTxerr := false
    txerr := false
    pv := false
    txerrIe := false
    pvIe := false
    result := .ok
    argId := 0
    argPgn := 0
    argPrio := 0
    argSrc := 0
    argDest := 0
    argDestPresent := false
    argLen := 0
    pvCnt := 0
    txerrCnt := 0
    dropCnt := 0
    claimed0 := 0
    claimed1 := 0
    claimed2 := 0
    claimed3 := 0
    claimed4 := 0
    claimed5 := 0
    claimed6 := 0
    claimed7 := 0
    txbuf := []
    rxs := []
    txs := []
    bamq := []
    params := Config.suggested
    env := Env.start }

end Sys2Proof.Machine
end

