-- ==== Sys2Proof/Machine/Flags.lean ====
section
/-! DEFINITION. Flags, counters and the interrupt line (45_sequencer_errors.md R210, R216; 60_exceptions.md R225 to
R232). The block has no condition codes (10_state.md R58) and no trap to take (R234): these are its whole error
reporting. -/

namespace Sys2Proof.Machine

/-- `count(PV)` (R216, R228): the counter, mod 2^32, and the sticky bit. -/
def countPv (s : State) : State := { s with pvCnt := s.pvCnt + 1, pv := true }

/-- `count(DROP)` (R216): the counter, mod 2^32. -/
def countDrop (s : State) : State := { s with dropCnt := s.dropCnt + 1 }

/-- What the transmit-failure policy tells its caller (R210). -/
inductive Verdict where
  | abort
  | cont
  deriving DecidableEq, Repr

/-- `txfail()` (R210): counts, sets STATUS.TXERR and answers ABORT unless IGN_TXERR = 1. -/
def txfail (s : State) : Verdict × State :=
  if s.ignTxerr then (.cont, { s with txerrCnt := s.txerrCnt + 1 })
  else (.abort, { s with txerrCnt := s.txerrCnt + 1, txerr := true })

/-- `RESULT <- code` (R225). -/
def setResult (c : ResultCode) (s : State) : State := { s with result := c }

/-- The numbers of R101. -/
def resultCode : ResultCode → Nat
  | .ok => 0
  | .invalidOp => 1
  | .dataTooLarge => 2
  | .txErr => 3
  | .busy => 4
  | .queueFull => 5
  | .disabled => 6
  | .illegalCmd => 7

/-- IRQ (R26, R232). -/
def irq (s : State) : Bool := (s.txerr && s.txerrIe) || (s.pv && s.pvIe)

/-- STATUS.BAMQ_NE (R33). -/
def bamqNe (s : State) : Bool := decide (0 < s.bamq.length)

/-- STATUS.RXS_FULL (R33). -/
def rxsFull (s : State) : Bool := decide (s.rxs.length = s.params.nRxSess)

/-- STATUS.TXS_FULL (R33). -/
def txsFull (s : State) : Bool := decide (s.txs.length = s.params.nTxSess)

/-- STATUS as read (R33): TXERR 0, PV 1, BAMQ_NE 2, RXS_FULL 3, TXS_FULL 4. -/
def statusWord (s : State) : Word :=
  (BitVec.ofBool (txsFull s) ++ BitVec.ofBool (rxsFull s) ++ BitVec.ofBool (bamqNe s)
    ++ BitVec.ofBool s.pv ++ BitVec.ofBool s.txerr : BitVec 5).setWidth 32

end Sys2Proof.Machine
end

