-- ==== Sys2Proof/Machine/Table.lean ====
section
/-! DEFINITION. Finite partial maps (00_scope.md R12) as lists of key and value in one canonical form: keys strictly
rising. RXS, TXS and TXBUF are such maps. -/

namespace Sys2Proof.Machine

variable {α : Type}

/-- `T[k]`, none where the key is not in the map. -/
def tblFind : List (Nat × α) → Nat → Option α
  | [], _ => none
  | (k, v) :: t, a => if k = a then some v else tblFind t a

/-- `k in T`. -/
def tblHas (t : List (Nat × α)) (a : Nat) : Bool := (tblFind t a).isSome

/-- `T[k] <- e`: inserts or replaces, in key order. -/
def tblInsert : List (Nat × α) → Nat → α → List (Nat × α)
  | [], a, v => [(a, v)]
  | (k, w) :: t, a, v =>
    if a < k then (a, v) :: (k, w) :: t
    else if k = a then (a, v) :: t
    else (k, w) :: tblInsert t a v

/-- `delete T[k]`. -/
def tblErase (t : List (Nat × α)) (a : Nat) : List (Nat × α) := t.filter fun p => decide (p.1 ≠ a)

/-- The canonical form: keys strictly rising. -/
abbrev TblWf (t : List (Nat × α)) : Prop := t.Pairwise fun p q => p.1 < q.1

/-- The key of a session, two 8-bit addresses (10_state.md R50, R52). -/
def pairKey (a b : Byte) : Nat := a.toNat * 256 + b.toNat

end Sys2Proof.Machine
end

