-- ==== Sys2Proof/Machine/Ops.lean ====
section
/-! DEFINITION. The named operations of 00_scope.md R13 over the state: emit, deliver, the response of the HOST port,
TXBUF bytes (20_memory.md R63), the claimed-address set (10_state.md R40), shutdown and reset. The block has no
exception to take and none to return from (60_exceptions.md R234, R235). -/

namespace Sys2Proof.Machine

/-! ### Ports -/

/-- Something leaves a port. -/
def output (o : PortOut) (s : State) : State :=
  { s with env := { s.env with outs := s.env.outs ++ [o] } }

/-- The frames on CAN_TX so far, oldest first (R24, R79). -/
def canTx (s : State) : List TxRec :=
  s.env.outs.filterMap fun o => match o with
    | .tx r => some r
    | .host _ => none
    | .pdu _ => none
    | .func _ => none

/-- The records on PDU_OUT so far, oldest first (R23, R80). -/
def pduOut (s : State) : List PduRec :=
  s.env.outs.filterMap fun o => match o with
    | .pdu p => some p
    | .host _ => none
    | .tx _ => none
    | .func _ => none

/-- The oracle's next answer (R24): what the environment supplied, else the free value (log entry 2). -/
def nextAnswer (e : Env) : TxAns :=
  match e.answers with
  | a :: _ => a
  | [] => Config.freeAnswer e.draws

/-- The ports after one `emit` of `f`. -/
def emitEnv (f : Frame) (e : Env) : Env :=
  { e with
    answers := e.answers.tail
    draws := e.draws + 1
    outs := e.outs ++ [.tx { frame := f, ans := nextAnswer e }] }

/-- `emit(f) -> OK | ERR` (R13, R24): the frame appears on CAN_TX and the oracle answers. -/
def emit (f : Frame) (s : State) : TxAns × State :=
  (nextAnswer s.env, { s with env := emitEnv f s.env })

/-- `emit(f)`, and `txfail()` where it answers ERR (R209, R210): ABORT exactly where the attempt is to stop. -/
def attempt (f : Frame) (s : State) : Verdict × State :=
  match emit f s with
  | (.ok, s1) => (.cont, s1)
  | (.err, s1) => txfail s1

/-- Emits the frames of a window in order, one attempt for all of them (R168, R170): ABORT ends the window, CONTINUE
goes on with the next frame. -/
def sendWindow : List Frame → State → State
  | [], s => s
  | f :: fs, s =>
    match attempt f s with
    | (.abort, s1) => s1
    | (.cont, s1) => sendWindow fs s1

/-- `deliver(p)` (R13, R23): the record appears on PDU_OUT. -/
def deliver (p : PduRec) (s : State) : State := output (.pdu p) s

/-- The response to the host access of this step (R60). -/
def respond (r : HostRsp) (s : State) : State := output (.host r) s

/-- A write's response OKAY (R60, R66). -/
def respondWrite (s : State) : State := respond { resp := .okay, rdata := none } s

/-- A read's response OKAY with its data (R60). -/
def respondRead (w : Word) (s : State) : State := respond { resp := .okay, rdata := some w } s

/-- The response to an illegal access (R62, R63, R242): ERROR, and rdata = 0 for a read. -/
def respondError (d : Dir) (s : State) : State :=
  match d with
  | .read => respond { resp := .error, rdata := some 0 } s
  | .write => respond { resp := .error, rdata := none } s

/-- A combinational function's value on the model's own log (log entry 10). -/
def outputFunc (v : FuncVal) (s : State) : State := output (.func v) s

/-- The next input, taken from the environment's list (log entry 1). -/
def fetch (s : State) : Option (Input × State) :=
  match s.env.inputs with
  | [] => none
  | x :: xs => some (x, { s with env := { s.env with inputs := xs } })

/-- An input placed before all others. -/
def placeInput (x : Input) (s : State) : State :=
  { s with env := { s.env with inputs := x :: s.env.inputs } }

/-! ### TXBUF -/

/-- The canonical form of TXBUF: indexes strictly rising and below 1785 (R49). A listed byte is one the host has
written, so no listed entry reads as an unlisted one does (log entry 5). -/
abbrev Memory.wf (m : List Host.Cell) : Prop := TblWf m ∧ ∀ c ∈ m, c.1 < maxPayload

/-- `TXBUF[i]`; none where TXBUF_W[i] = 0 (R49). -/
def txbufByte (s : State) (i : Nat) : Option Byte := tblFind s.txbuf i

/-- `TXBUF_W[i]` (R49). -/
def txbufW (s : State) (i : Nat) : Bool := tblHas s.txbuf i

/-- One lane of a host write (R63): stores the byte and its written mark where the offset lies in 0x800..0xEF8, else
nothing. -/
def writeLane (off : Nat) (b : Byte) (s : State) : State :=
  match txbufIndex off with
  | some i => { s with txbuf := tblInsert s.txbuf i b }
  | none => s

/-- The lanes of a host write from lane `k` on, `n` of them (R63, R69). -/
def writeLanes (off : Nat) (w : Word) : Nat → Nat → State → State
  | _, 0, s => s
  | k, n + 1, s => writeLanes off w (k + 1) n (writeLane (off + k) (lane w k) s)

/-- One lane of a host read (R63): the byte, 0 outside TXBUF, the fault's index where the byte is unwritten. -/
def readLane (s : State) (off : Nat) : Except Nat Byte :=
  match txbufIndex off with
  | none => .ok 0
  | some i =>
    match txbufByte s i with
    | some b => .ok b
    | none => .error i

/-- `n` lanes of a host read from offset `off` on, the lowest unwritten index first (R63). -/
def readLanes (s : State) (off : Nat) : Nat → Except Nat (List Byte)
  | 0 => .ok []
  | n + 1 =>
    match readLane s off with
    | .error i => .error i
    | .ok b =>
      match readLanes s (off + 1) n with
      | .error i => .error i
      | .ok bs => .ok (b :: bs)

/-- `TXBUF[i..i+n)`, or the lowest unwritten index of it (R156). -/
def readTxbuf (s : State) (i : Nat) : Nat → Except Nat (List Byte)
  | 0 => .ok []
  | n + 1 =>
    match txbufByte s i with
    | none => .error i
    | some b =>
      match readTxbuf s (i + 1) n with
      | .error j => .error j
      | .ok bs => .ok (b :: bs)

/-! ### Claimed addresses -/

/-- CLAIMEDj as read (R40); bit 31 of CLAIMED7 reads 0. -/
def claimedWord (s : State) (j : Nat) : Word :=
  match j with
  | 0 => s.claimed0
  | 1 => s.claimed1
  | 2 => s.claimed2
  | 3 => s.claimed3
  | 4 => s.claimed4
  | 5 => s.claimed5
  | 6 => s.claimed6
  | 7 => s.claimed7.setWidth 32
  | _ => 0

/-- `CLAIMED[a]` (R40): bit a[4:0] of CLAIMEDj, j = a[7:5]. -/
def isClaimed (s : State) (a : Byte) : Bool :=
  (claimedWord s (a.toNat / 32)).getLsbD (a.toNat % 32)

/-! ### Shutdown and reset -/

/-- Shutdown (R215): the tables and the queue are emptied, nothing else. -/
def shutdown (s : State) : State := { s with rxs := [], txs := [], bamq := [] }

/-- Reset (R245): every piece of the block's state takes its reset value. The parameters are constant for a given
block (R48), and what stands outside the block is no state of it (R59). -/
def resetBlock (s : State) : State := { State.reset with params := s.params, env := s.env }

/-- A step of an agent other than the host while EN = 0 has no effect (R146, R205). -/
def whenEnabled (s : State) (f : State → State) : Out := if s.en then .next (f s) else .next s

end Sys2Proof.Machine
end

