-- ==== Sys2Proof/Machine/Emitted.lean ====
section
/-! DEFINITION. The frames the block emits (30_encoding.md R110), each as the operation its rule performs inside a
step: the frame appears on CAN_TX, the oracle answers, and a failure is counted and flagged by `txfail`
(45_sequencer_errors.md R209, R210). No agent starts one of these by itself (log entry 9): SEND, RX_RTS, RX_CTS, RX_DT
and PACE_TICK emit these same frames by the same shared operation `attempt`. -/

namespace Sys2Proof.Machine

/-- R157. -/
def execTxShort (id : CanId) (data : List Byte) (s : State) : Out := .next (attempt (frame id data) s).2

/-- R161. -/
def execTxRts (dst src : Byte) (len : BitVec 16) (n : Byte) (pgn : Pgn) (s : State) : Out :=
  .next (attempt (rtsFrame dst src len n pgn) s).2

/-- R164. -/
def execTxBam (src : Byte) (len : BitVec 16) (n : Byte) (pgn : Pgn) (s : State) : Out :=
  .next (attempt (bamFrame src len n pgn) s).2

/-- R166, R169. -/
def execTxDtRts (dst src seq : Byte) (seg : List Byte) (s : State) : Out :=
  .next (attempt (frame (tpId pgnTpDt dst src) (seq :: seg)) s).2

/-- R167. -/
def execTxDtBam (src seq : Byte) (seg : List Byte) (s : State) : Out :=
  .next (attempt (frame (tpId pgnTpDt globalAddr src) (seq :: seg)) s).2

/-- R186. -/
def execTxCts (dst src tseg : Byte) (pgn : Pgn) (s : State) : Out :=
  .next (attempt (ctsFrame dst src tseg pgn) s).2

/-- R192. -/
def execTxEomack (dst src : Byte) (tlen : BitVec 16) (tseg : Byte) (pgn : Pgn) (s : State) : Out :=
  .next (attempt (eomackFrame dst src tlen tseg pgn) s).2

end Sys2Proof.Machine
end

