-- ==== Sys2Proof/Machine/Functions.lean ====
section
/-! DEFINITION. The combinational functions of the opcode table (40_codec.md R116 to R122, R130; 41_pdu_segmentation.md R136
to R138), each giving its value on the model's own output log and changing no state (R134, log entry 10). -/

namespace Sys2Proof.Machine

/-- R116. -/
def execPgnPack (r dp : Bool) (pf ps : Byte) (s : State) : Out := .next (outputFunc (.pgn (pgnPack r dp pf ps)) s)

/-- R117. -/
def execPgnFields (v : Pgn) (s : State) : Out :=
  .next (outputFunc (.fields (pgnR v) (pgnDp v) (pgnPf v) (pgnPs v)) s)

/-- R118. -/
def execIsPdu1 (v : Pgn) (s : State) : Out := .next (outputFunc (.bit (isPdu1 v)) s)

/-- R119. -/
def execPgnNumber (v : Pgn) (s : State) : Out := .next (outputFunc (.pgn (pgnNumber v)) s)

/-- R120. -/
def execIdPack (prio : Prio) (v : Pgn) (sa : Byte) (s : State) : Out := .next (outputFunc (.id (idPack prio v sa)) s)

/-- R121. -/
def execIdUnpack (id : CanId) (s : State) : Out :=
  .next (outputFunc (.unpacked (idPrio id) (idPgn id) (idSa id)) s)

/-- R122. -/
def execIdDest (id : CanId) (s : State) : Out := .next (outputFunc (.dest (idDest id)) s)

/-- R130. -/
def execWithDest (id : CanId) (dest : Byte) (s : State) : Out := .next (outputFunc (.id (withDest id dest)) s)

/-- R136; `n = 0` is not a legal operand (log entry 16). -/
def execSegments (bytes : List Byte) (n : Nat) (s : State) : Out :=
  if n = 0 then .refused .segmentLengthZero else .next (outputFunc (.chunks (segments bytes n)) s)

/-- R137. -/
def execNseg (len : Nat) (s : State) : Out := .next (outputFunc (.count (nseg len)) s)

/-- R138. -/
def execTpPad (bytes : List Byte) (s : State) : Out := .next (outputFunc (.bytes (tpPad bytes)) s)

end Sys2Proof.Machine
end

