-- ==== Sys2Proof/Machine/Commands.lean ====
section
/-! DEFINITION. The host commands that do not transmit: NOP, BUILD_ID, SET_DEST and the reserved opcodes
(40_codec.md R128, R129; 45_sequencer_errors.md R218, R219). Each is the step of the CMD write, so each answers the
host OKAY (20_memory.md R60). They work while EN = 0 (R215). -/

namespace Sys2Proof.Machine

/-- R218. -/
def execNop (s : State) : Out := .next (respondWrite (setResult .ok s))

/-- R128: what BUILD_ID does to ARG_ID and RESULT. -/
def buildId (s : State) : State :=
  if s.argDestPresent = true ∧ isPdu1 s.argPgn = false then setResult .invalidOp s
  else
    setResult .ok { s with
      argId := idPack s.argPrio
        (if s.argDestPresent then pgnWithPs s.argPgn s.argDest else s.argPgn) s.argSrc }

/-- R128. -/
def execBuildId (s : State) : Out := .next (respondWrite (buildId s))

/-- R129: what SET_DEST does to ARG_ID and RESULT. -/
def setDest (s : State) : State :=
  if isPdu1 (idPgn s.argId) = false then setResult .invalidOp s
  else setResult .ok { s with argId := withDest s.argId s.argDest }

/-- R129. -/
def execSetDest (s : State) : Out := .next (respondWrite (setDest s))

/-- R219: a reserved opcode does nothing but `RESULT <- ILLEGAL_CMD`. -/
def reservedCommand (s : State) : State := respondWrite (setResult .illegalCmd s)

/-- R219, OPC 0x4. -/
def execReservedCmd4 (s : State) : Out := .next (reservedCommand s)

/-- R219, OPC 0x5. -/
def execReservedCmd5 (s : State) : Out := .next (reservedCommand s)

/-- R219, OPC 0x6. -/
def execReservedCmd6 (s : State) : Out := .next (reservedCommand s)

/-- R219, OPC 0x7. -/
def execReservedCmd7 (s : State) : Out := .next (reservedCommand s)

/-- R219, OPC 0x8. -/
def execReservedCmd8 (s : State) : Out := .next (reservedCommand s)

/-- R219, OPC 0x9. -/
def execReservedCmd9 (s : State) : Out := .next (reservedCommand s)

/-- R219, OPC 0xA. -/
def execReservedCmdA (s : State) : Out := .next (reservedCommand s)

/-- R219, OPC 0xB. -/
def execReservedCmdB (s : State) : Out := .next (reservedCommand s)

/-- R219, OPC 0xC. -/
def execReservedCmdC (s : State) : Out := .next (reservedCommand s)

/-- R219, OPC 0xD. -/
def execReservedCmdD (s : State) : Out := .next (reservedCommand s)

/-- R219, OPC 0xE. -/
def execReservedCmdE (s : State) : Out := .next (reservedCommand s)

/-- R219, OPC 0xF. -/
def execReservedCmdF (s : State) : Out := .next (reservedCommand s)

end Sys2Proof.Machine
end

