-- ==== Sys2Proof/Machine/Transmit.lean ====
section
/-! DEFINITION. TP transmit (43_tp_transmit.md): SEND with its three paths, the received CTS and the received
EOM-ACK. -/

namespace Sys2Proof.Machine

/-- R157: the single-frame path, `L ≤ 8`. -/
def sendShort (p : List Byte) (s : State) : State :=
  match attempt (frame s.argId p) s with
  | (.abort, s1) => setResult .txErr s1
  | (.cont, s1) => setResult .ok s1

/-- R158: the RTS path is for a PDU1 identifier whose destination is not the global address. -/
def rtsPath (id : CanId) : Bool := isPdu1 (idPgn id) && idPs id != globalAddr

/-- R159: a transfer in flight for the same key is discarded and counted. -/
def dropDuplicate (key : Nat) (s : State) : State :=
  if tblHas s.txs key then countPv { s with txs := tblErase s.txs key } else s

/-- The TXS entry of a payload sent under an identifier (R162). -/
def txEntry (id : CanId) (p : List Byte) : TxEntry :=
  { len := p.length, nseg := nseg p.length, pgn := pgnNumber (idPgn id), segs := tpPad p }

/-- The RTS of a payload sent under an identifier (R161). -/
def sendRtsFrame (id : CanId) (p : List Byte) : Frame :=
  rtsFrame (idPs id) (idSa id) (BitVec.ofNat 16 p.length) (BitVec.ofNat 8 (nseg p.length))
    (pgnNumber (idPgn id))

/-- R159 to R162: the RTS path. -/
def sendRts (p : List Byte) (s : State) : State :=
  let key := pairKey (idSa s.argId) (idPs s.argId)
  let s1 := dropDuplicate key s
  if s1.txs.length = s1.params.nTxSess then setResult .busy s1
  else
    match attempt (sendRtsFrame s.argId p) s1 with
    | (.abort, s2) => setResult .txErr s2
    | (.cont, s2) => setResult .ok { s2 with txs := tblInsert s2.txs key (txEntry s.argId p) }

/-- The BAM of a payload sent under an identifier (R164). -/
def sendBamFrame (id : CanId) (p : List Byte) : Frame :=
  bamFrame (idSa id) (BitVec.ofNat 16 p.length) (BitVec.ofNat 8 (nseg p.length)) (pgnNumber (idPgn id))

/-- The TP.DT frames of a BAM transfer, in the order they are queued (R165, R167). -/
def bamData (src : Byte) (p : List Byte) : List Frame :=
  (List.range (nseg p.length)).map fun i => dtFrame globalAddr src (i + 1) (tpPad p)

/-- R163 to R165: the BAM path. -/
def sendBam (p : List Byte) (s : State) : State :=
  if s.params.bamqDepth - s.bamq.length < nseg p.length then setResult .queueFull s
  else
    match attempt (sendBamFrame s.argId p) s with
    | (.abort, s1) => setResult .txErr s1
    | (.cont, s1) => setResult .ok { s1 with bamq := s1.bamq ++ bamData (idSa s.argId) p }

/-- R140, R157, R158: the path of a payload. -/
def sendPayload (p : List Byte) (s : State) : State :=
  if p.length ≤ shortMax then sendShort p s
  else if rtsPath s.argId then sendRts p s
  else sendBam p s

/-- R155, R156: SEND, its checks in their order. -/
def execSend (s : State) : Out :=
  if s.en = false then .next (respondWrite (setResult .disabled s))
  else if maxPayload < s.argLen.toNat then .next (respondWrite (setResult .dataTooLarge s))
  else
    match readTxbuf s 0 s.argLen.toNat with
    | .error i => .fault (.unwrittenTxbuf i)
    | .ok p => .next (respondWrite (sendPayload p s))

/-- R169: the 1-based segments `start .. start + count - 1`, clipped to `1 .. nseg`. -/
def ctsWindow (count start : Byte) (n : Nat) : List Nat :=
  List.range' start.toNat (min (start.toNat + count.toNat - 1) n + 1 - start.toNat)

/-- R168 to R171, R173: what a CTS from peer `src` to our address `dst` does. -/
def handleCts (dst src count start : Byte) (s : State) : State :=
  match tblFind s.txs (pairKey dst src) with
  | none => countPv s
  | some e =>
    if start = 0 then countPv s
    else sendWindow ((ctsWindow count start e.nseg).map fun k => dtFrame src dst k e.segs) s

/-- R168; the priority is not read (R203). -/
def execRxCts (_prio : Prio) (dst src count start : Byte) (s : State) : Out :=
  whenEnabled s (handleCts dst src count start)

/-- R172, R173: what an EOM-ACK from peer `src` to our address `dst` does. -/
def handleEomack (dst src : Byte) (s : State) : State :=
  if tblHas s.txs (pairKey dst src) then { s with txs := tblErase s.txs (pairKey dst src) }
  else countPv s

/-- R172; the priority is not read (R203). -/
def execRxEomack (_prio : Prio) (dst src : Byte) (s : State) : Out :=
  whenEnabled s (handleEomack dst src)

end Sys2Proof.Machine
end

