-- ==== Sys2Proof/Machine/HostAccess.lean ====
section
/-! DEFINITION. The host accesses (20_memory.md): register writes (R66 to R68; 45_sequencer_errors.md R214 to R224),
register reads with the view registers (R65; 10_state.md R32 to R48), TXBUF (R63) and the illegal access (R62). -/

namespace Sys2Proof.Machine

/-! ### Register writes -/

/-- R214, R215: EN and IGN_TXERR take their bits; EN falling from 1 to 0 is a shutdown. -/
def writeCtrl (w : Word) (s : State) : State :=
  let s1 := { s with en := w.getLsbD 0, ignTxerr := w.getLsbD 1 }
  if s.en = true ∧ w.getLsbD 0 = false then shutdown s1 else s1

/-- R214. -/
def execWCtrl (w : Word) (s : State) : Out := .next (respondWrite (writeCtrl w s))

/-- R67, R220: write 1 to clear. -/
def execWStatus (w : Word) (s : State) : Out :=
  .next (respondWrite { s with txerr := s.txerr && !w.getLsbD 0, pv := s.pv && !w.getLsbD 1 })

/-- R221. -/
def execWIe (w : Word) (s : State) : Out :=
  .next (respondWrite { s with txerrIe := w.getLsbD 0, pvIe := w.getLsbD 1 })

/-- R99: a write to CMD performs the command of its OPC in that step. -/
def execWCmd (w : Word) (s : State) : Out :=
  match (opcOf w).toNat with
  | 0x0 => execNop s
  | 0x1 => execBuildId s
  | 0x2 => execSetDest s
  | 0x3 => execSend s
  | _ => .next (reservedCommand s)

/-- R224. -/
def execWArgId (w : Word) (s : State) : Out := .next (respondWrite { s with argId := w.setWidth 29 })

/-- R224. -/
def execWArgPgn (w : Word) (s : State) : Out := .next (respondWrite { s with argPgn := w.setWidth 18 })

/-- R224: the bits of 0x01FFFF07 (R39, R108). -/
def execWArgAddr (w : Word) (s : State) : Out :=
  .next (respondWrite { s with
    argPrio := w.extractLsb' 0 3
    argSrc := w.extractLsb' 8 8
    argDest := w.extractLsb' 16 8
    argDestPresent := w.getLsbD 24 })

/-- R224. -/
def execWArgLen (w : Word) (s : State) : Out := .next (respondWrite { s with argLen := w.setWidth 11 })

/-- R217: any value clears the counter. -/
def execWPvCnt (_w : Word) (s : State) : Out := .next (respondWrite { s with pvCnt := 0 })

/-- R217. -/
def execWTxerrCnt (_w : Word) (s : State) : Out := .next (respondWrite { s with txerrCnt := 0 })

/-- R217. -/
def execWDropCnt (_w : Word) (s : State) : Out := .next (respondWrite { s with dropCnt := 0 })

/-- R222. -/
def execWClaimed0 (w : Word) (s : State) : Out := .next (respondWrite { s with claimed0 := w })

/-- R222. -/
def execWClaimed1 (w : Word) (s : State) : Out := .next (respondWrite { s with claimed1 := w })

/-- R222. -/
def execWClaimed2 (w : Word) (s : State) : Out := .next (respondWrite { s with claimed2 := w })

/-- R222. -/
def execWClaimed3 (w : Word) (s : State) : Out := .next (respondWrite { s with claimed3 := w })

/-- R222. -/
def execWClaimed4 (w : Word) (s : State) : Out := .next (respondWrite { s with claimed4 := w })

/-- R222. -/
def execWClaimed5 (w : Word) (s : State) : Out := .next (respondWrite { s with claimed5 := w })

/-- R222. -/
def execWClaimed6 (w : Word) (s : State) : Out := .next (respondWrite { s with claimed6 := w })

/-- R222; bit 31 stays 0 (R40). -/
def execWClaimed7 (w : Word) (s : State) : Out :=
  .next (respondWrite { s with claimed7 := w.setWidth 31 })

/-- R63, R223: the lanes of a TXBUF write. -/
def execWTxbuf (off : Offset) (size : Size) (w : Word) (s : State) : Out :=
  .next (respondWrite (writeLanes off.toNat w 0 size.bytes s))

/-- R66: a write to a read-only register or a reserved offset is ignored. -/
def execWRegOther (_off : Offset) (_w : Word) (s : State) : Out := .next (respondWrite s)

/-! ### Register reads -/

/-- ARG_ADDR as read (R39): reserved bits 7:3 and 31:25 read 0. -/
def argAddrWord (s : State) : Word :=
  0#7 ++ BitVec.ofBool s.argDestPresent ++ s.argDest ++ s.argSrc ++ 0#5 ++ s.argPrio

/-- ID_FIELDS (R42, R124). -/
def idFieldsWord (s : State) : Word :=
  0#1 ++ BitVec.ofBool (isPdu1 (idPgn s.argId)) ++ BitVec.ofBool (isPdu1 (idPgn s.argId)) ++ s.argId

/-- ID_DEST (R44, R126). -/
def idDestWord (s : State) : Word :=
  match idDest s.argId with
  | some d => (1#1 ++ d : BitVec 9).setWidth 32
  | none => 0

/-- PGN_FIELDS (R45, R127). -/
def pgnFieldsWord (s : State) : Word :=
  (BitVec.ofBool (isPdu1 s.argPgn) ++ s.argPgn : BitVec 19).setWidth 32

/-- A 16-bit occupancy or parameter field (R47, R48). -/
def field16 (n : Nat) : BitVec 16 := BitVec.ofNat 16 n

/-- The word a legal register read returns, by its offset (R61, R65); a reserved offset and CMD read 0. -/
def regWord (s : State) : Nat → Word
  | 0x000 => (BitVec.ofBool s.ignTxerr ++ BitVec.ofBool s.en : BitVec 2).setWidth 32
  | 0x004 => statusWord s
  | 0x008 => (BitVec.ofBool s.pvIe ++ BitVec.ofBool s.txerrIe : BitVec 2).setWidth 32
  | 0x00C => 0
  | 0x010 => BitVec.ofNat 32 (resultCode s.result)
  | 0x014 => s.argId.setWidth 32
  | 0x018 => s.argPgn.setWidth 32
  | 0x01C => argAddrWord s
  | 0x020 => s.argLen.setWidth 32
  | 0x024 => idFieldsWord s
  | 0x028 => (idPgn s.argId).setWidth 32
  | 0x02C => (pgnNumber (idPgn s.argId)).setWidth 32
  | 0x030 => idDestWord s
  | 0x034 => pgnFieldsWord s
  | 0x038 => (pgnNumber s.argPgn).setWidth 32
  | 0x040 => s.pvCnt
  | 0x044 => s.txerrCnt
  | 0x048 => s.dropCnt
  | 0x04C => (field16 s.rxs.length).setWidth 32
  | 0x050 => (field16 s.txs.length).setWidth 32
  | 0x054 => (field16 s.bamq.length).setWidth 32
  | 0x058 => field16 s.params.nTxSess ++ field16 s.params.nRxSess
  | 0x05C => (field16 s.params.bamqDepth).setWidth 32
  | 0x060 => claimedWord s 0
  | 0x064 => claimedWord s 1
  | 0x068 => claimedWord s 2
  | 0x06C => claimedWord s 3
  | 0x070 => claimedWord s 4
  | 0x074 => claimedWord s 5
  | 0x078 => claimedWord s 6
  | 0x07C => claimedWord s 7
  | _ => 0

/-- R65: a register read has no side effect. -/
def execRReg (off : Offset) (s : State) : Out := .next (respondRead (regWord s off.toNat) s)

/-- R63: a TXBUF read; an unwritten byte is the model fault. -/
def execRTxbuf (off : Offset) (size : Size) (s : State) : Out :=
  match readLanes s off.toNat size.bytes with
  | .error i => .fault (.unwrittenTxbuf i)
  | .ok bs => .next (respondRead (lanesWord bs) s)

/-- R62, R63, R242, R243: an illegal access answers ERROR and changes nothing. -/
def execHostIllegal (dir : Dir) (_off : Offset) (_size : Size) (_w : Word) (s : State) : Out :=
  .next (respondError dir s)

end Sys2Proof.Machine
end

