-- ==== Sys2Proof/Machine/Intake.lean ====
section
/-! DEFINITION. The received frames the TP state machine does not act on (42_frame_intake.md R147, R148, R150, R152).
While EN = 0 a received frame changes nothing (R146). -/

namespace Sys2Proof.Machine

/-- R147: a standard frame is dropped and counted. -/
def execRxStd (_id : BitVec 11) (_data : List Byte) (s : State) : Out := whenEnabled s countDrop

/-- R148: a TP.CM frame whose dlc is not 8 is a protocol violation. -/
def execRxCmBadlen (_prio : Prio) (_dst _src : Byte) (_data : List Byte) (s : State) : Out :=
  whenEnabled s countPv

/-- R150: a TP.CM frame with an unknown control byte is a protocol violation. -/
def execRxCmOther (_prio : Prio) (_dst _src _ctl : Byte) (s : State) : Out := whenEnabled s countPv

/-- R152: any other extended frame is delivered unchanged. -/
def execRxPass (id : CanId) (data : List Byte) (s : State) : Out :=
  whenEnabled s (deliver { kind := .frame, id := id, len := data.length, data := data })

end Sys2Proof.Machine
end

