-- ==== Sys2Proof/Machine/Receive.lean ====
section
/-! DEFINITION. TP receive (44_tp_receive.md): RTS and BAM in, CTS out, reassembly, EOM-ACK out, Abort. The key of a
session is (src, dst) of the received frame (42_frame_intake.md R149). -/

namespace Sys2Proof.Machine

/-- R182: an entry of the same key is deleted with its buffer and counted. -/
def dropReplaced (key : Nat) (s : State) : State :=
  if tblHas s.rxs key then countPv { s with rxs := tblErase s.rxs key } else s

/-- R182 to R185, for an RTS and a BAM alike: the state after the announcement, and whether an entry was created. -/
def announce (kind : SessKind) (prio : Prio) (dst src : Byte) (tlen : BitVec 16) (tseg : Byte) (pgn : Pgn)
    (s : State) : Bool × State :=
  let key := pairKey src dst
  let s1 := dropReplaced key s
  if maxPayload < tlen.toNat then (false, countPv s1)
  else if s1.rxs.length = s1.params.nRxSess then (false, countDrop s1)
  else
    (true, { s1 with
      rxs := tblInsert s1.rxs key
        { kind := kind, prio := prio, tlen := tlen, tseg := tseg, pgn := pgn, buf := [] } })

/-- R180, R186, R187: an RTS. A failed CTS leaves the entry, whatever the verdict. -/
def handleRts (prio : Prio) (dst src : Byte) (tlen : BitVec 16) (tseg : Byte) (pgn : Pgn) (s : State) : State :=
  match announce .rts prio dst src tlen tseg pgn s with
  | (false, s1) => s1
  | (true, s1) => if isClaimed s1 dst then (attempt (ctsFrame src dst tseg pgn) s1).2 else s1

/-- R180. -/
def execRxRts (prio : Prio) (dst src : Byte) (tlen : BitVec 16) (tseg : Byte) (pgn : Pgn) (s : State) : Out :=
  whenEnabled s (handleRts prio dst src tlen tseg pgn)

/-- R188: a BAM, which never gets a CTS. -/
def handleBam (prio : Prio) (dst src : Byte) (tlen : BitVec 16) (tseg : Byte) (pgn : Pgn) (s : State) : State :=
  (announce .bam prio dst src tlen tseg pgn s).2

/-- R188. -/
def execRxBam (prio : Prio) (dst src : Byte) (tlen : BitVec 16) (tseg : Byte) (pgn : Pgn) (s : State) : Out :=
  whenEnabled s (handleBam prio dst src tlen tseg pgn)

/-- R194: the reassembled PDU of an entry for (src, dst). -/
def sessionPdu (e : RxEntry) (src dst : Byte) (data : List Byte) : PduRec :=
  { kind := .tp
    id := idPack e.prio (if isPdu1 e.pgn then pgnWithPs e.pgn dst else e.pgn) src
    len := e.tlen.toNat
    data := data }

/-- R195: the PDU is delivered and the entry deleted. -/
def finishSession (e : RxEntry) (src dst : Byte) (data : List Byte) (s : State) : State :=
  deliver (sessionPdu e src dst data) { s with rxs := tblErase s.rxs (pairKey src dst) }

/-- R191 to R195: the completion of a transfer whose buffer holds at least the declared length. -/
def completeSession (e : RxEntry) (src dst : Byte) (buf : List Byte) (s : State) : State :=
  let data := buf.take e.tlen.toNat
  if e.kind = .rts ∧ isClaimed s dst = true then
    match attempt (eomackFrame src dst e.tlen e.tseg e.pgn) s with
    | (.abort, s1) => { s1 with rxs := tblErase s1.rxs (pairKey src dst) }
    | (.cont, s1) => finishSession e src dst data s1
  else finishSession e src dst data s

/-- R189 to R191: a data frame; its first byte, the sequence number, is not read. -/
def handleDt (dst src : Byte) (data : List Byte) (s : State) : State :=
  if data.length = 0 then countDrop s
  else
    match tblFind s.rxs (pairKey src dst) with
    | none => countDrop s
    | some e =>
      let buf := e.buf ++ data.drop 1
      if e.tlen.toNat ≤ buf.length then completeSession e src dst buf s
      else { s with rxs := tblInsert s.rxs (pairKey src dst) { e with buf := buf } }

/-- R189; the priority is not read (R203). -/
def execRxDt (_prio : Prio) (dst src : Byte) (data : List Byte) (s : State) : Out :=
  whenEnabled s (handleDt dst src data)

/-- R198: the RX entry is deleted; nothing is emitted or counted and TXS is not touched. -/
def handleAbort (dst src : Byte) (s : State) : State := { s with rxs := tblErase s.rxs (pairKey src dst) }

/-- R198; the priority is not read (R203). -/
def execRxAbort (_prio : Prio) (dst src : Byte) (s : State) : Out :=
  whenEnabled s (handleAbort dst src)

end Sys2Proof.Machine
end

