-- ==== Sys2Proof/Machine/Sequencer.lean ====
section
/-! DEFINITION. The paced broadcast sender (45_sequencer_errors.md R205) and the reset input
(70_reset_and_hazards.md R245). -/

namespace Sys2Proof.Machine

/-- R205: the oldest queued frame leaves; it is not put back where it fails. -/
def tick (s : State) : State :=
  match s.bamq with
  | [] => s
  | f :: q => (attempt f { s with bamq := q }).2

/-- R205. -/
def execPaceTick (s : State) : Out := whenEnabled s tick

/-- R245. -/
def execReset (s : State) : Out := .next (resetBlock s)

end Sys2Proof.Machine
end

