-- ==== Sys2Proof/Machine/Dispatch.lean ====
section
/-! DEFINITION. The meaning of every instruction, one arm per row of spec/opcode_table.json. -/

namespace Sys2Proof.Machine

open Sys2Proof

def exec (i : Instr) (s : State) : Host.Outcome State Fault Refusal :=
  match i with
  | .nop => Sys2Proof.Machine.execNop s
  | .buildId => Sys2Proof.Machine.execBuildId s
  | .setDest => Sys2Proof.Machine.execSetDest s
  | .send => Sys2Proof.Machine.execSend s
  | .reservedCmd4 => Sys2Proof.Machine.execReservedCmd4 s
  | .reservedCmd5 => Sys2Proof.Machine.execReservedCmd5 s
  | .reservedCmd6 => Sys2Proof.Machine.execReservedCmd6 s
  | .reservedCmd7 => Sys2Proof.Machine.execReservedCmd7 s
  | .reservedCmd8 => Sys2Proof.Machine.execReservedCmd8 s
  | .reservedCmd9 => Sys2Proof.Machine.execReservedCmd9 s
  | .reservedCmdA => Sys2Proof.Machine.execReservedCmdA s
  | .reservedCmdB => Sys2Proof.Machine.execReservedCmdB s
  | .reservedCmdC => Sys2Proof.Machine.execReservedCmdC s
  | .reservedCmdD => Sys2Proof.Machine.execReservedCmdD s
  | .reservedCmdE => Sys2Proof.Machine.execReservedCmdE s
  | .reservedCmdF => Sys2Proof.Machine.execReservedCmdF s
  | .rxStd id data => Sys2Proof.Machine.execRxStd id data s
  | .rxCmBadlen prio dst src data => Sys2Proof.Machine.execRxCmBadlen prio dst src data s
  | .rxRts prio dst src tlen tseg pgn => Sys2Proof.Machine.execRxRts prio dst src tlen tseg pgn s
  | .rxCts prio dst src count start => Sys2Proof.Machine.execRxCts prio dst src count start s
  | .rxEomack prio dst src => Sys2Proof.Machine.execRxEomack prio dst src s
  | .rxBam prio dst src tlen tseg pgn => Sys2Proof.Machine.execRxBam prio dst src tlen tseg pgn s
  | .rxAbort prio dst src => Sys2Proof.Machine.execRxAbort prio dst src s
  | .rxCmOther prio dst src ctl => Sys2Proof.Machine.execRxCmOther prio dst src ctl s
  | .rxDt prio dst src data => Sys2Proof.Machine.execRxDt prio dst src data s
  | .rxPass id data => Sys2Proof.Machine.execRxPass id data s
  | .paceTick => Sys2Proof.Machine.execPaceTick s
  | .reset => Sys2Proof.Machine.execReset s
  | .wCtrl wdata => Sys2Proof.Machine.execWCtrl wdata s
  | .wStatus wdata => Sys2Proof.Machine.execWStatus wdata s
  | .wIe wdata => Sys2Proof.Machine.execWIe wdata s
  | .wCmd wdata => Sys2Proof.Machine.execWCmd wdata s
  | .wArgId wdata => Sys2Proof.Machine.execWArgId wdata s
  | .wArgPgn wdata => Sys2Proof.Machine.execWArgPgn wdata s
  | .wArgAddr wdata => Sys2Proof.Machine.execWArgAddr wdata s
  | .wArgLen wdata => Sys2Proof.Machine.execWArgLen wdata s
  | .wPvCnt wdata => Sys2Proof.Machine.execWPvCnt wdata s
  | .wTxerrCnt wdata => Sys2Proof.Machine.execWTxerrCnt wdata s
  | .wDropCnt wdata => Sys2Proof.Machine.execWDropCnt wdata s
  | .wClaimed0 wdata => Sys2Proof.Machine.execWClaimed0 wdata s
  | .wClaimed1 wdata => Sys2Proof.Machine.execWClaimed1 wdata s
  | .wClaimed2 wdata => Sys2Proof.Machine.execWClaimed2 wdata s
  | .wClaimed3 wdata => Sys2Proof.Machine.execWClaimed3 wdata s
  | .wClaimed4 wdata => Sys2Proof.Machine.execWClaimed4 wdata s
  | .wClaimed5 wdata => Sys2Proof.Machine.execWClaimed5 wdata s
  | .wClaimed6 wdata => Sys2Proof.Machine.execWClaimed6 wdata s
  | .wClaimed7 wdata => Sys2Proof.Machine.execWClaimed7 wdata s
  | .wTxbuf off size wdata => Sys2Proof.Machine.execWTxbuf off size wdata s
  | .wRegOther off wdata => Sys2Proof.Machine.execWRegOther off wdata s
  | .rReg off => Sys2Proof.Machine.execRReg off s
  | .rTxbuf off size => Sys2Proof.Machine.execRTxbuf off size s
  | .hostIllegal dir off size wdata => Sys2Proof.Machine.execHostIllegal dir off size wdata s
  | .txShort id data => Sys2Proof.Machine.execTxShort id data s
  | .txRts dst src len nseg pgn => Sys2Proof.Machine.execTxRts dst src len nseg pgn s
  | .txBam src len nseg pgn => Sys2Proof.Machine.execTxBam src len nseg pgn s
  | .txDtRts dst src seq seg => Sys2Proof.Machine.execTxDtRts dst src seq seg s
  | .txDtBam src seq seg => Sys2Proof.Machine.execTxDtBam src seq seg s
  | .txCts dst src tseg pgn => Sys2Proof.Machine.execTxCts dst src tseg pgn s
  | .txEomack dst src tlen tseg pgn => Sys2Proof.Machine.execTxEomack dst src tlen tseg pgn s
  | .pgnPack r dp pf ps => Sys2Proof.Machine.execPgnPack r dp pf ps s
  | .pgnFields v => Sys2Proof.Machine.execPgnFields v s
  | .isPdu1 v => Sys2Proof.Machine.execIsPdu1 v s
  | .pgnNumber v => Sys2Proof.Machine.execPgnNumber v s
  | .idPack prio v sa => Sys2Proof.Machine.execIdPack prio v sa s
  | .idUnpack id => Sys2Proof.Machine.execIdUnpack id s
  | .idDest id => Sys2Proof.Machine.execIdDest id s
  | .withDest id dest => Sys2Proof.Machine.execWithDest id dest s
  | .segments bytes n => Sys2Proof.Machine.execSegments bytes n s
  | .nseg len => Sys2Proof.Machine.execNseg len s
  | .tpPad bytes => Sys2Proof.Machine.execTpPad bytes s

end Sys2Proof.Machine
end

