-- ==== Sys2Proof/Machine/Step.lean ====
section
/-! DEFINITION. One step: the next input is fetched, decoded and executed (00_scope.md R14). With no input pending no
agent acts and nothing changes (log entry 1). -/

namespace Sys2Proof.Machine

/-- One step of the block. -/
def step (s : State) : Host.Outcome State Fault Refusal :=
  match fetch s with
  | none => .next s
  | some (x, s1) =>
    match decode x with
    | .error why => .refused (.badInput why)
    | .ok i => exec i s1

/-- The state in which the input of a table row's bits is the next one fetched (log entries 8 and 12). -/
def State.withFetchWord (s : State) (nbits w : Nat) : State :=
  match tableInput nbits w with
  | some x => placeInput x s
  | none => s

end Sys2Proof.Machine
end

