-- ==== Sys2Proof/Safety.lean ====
section
/-! DEFINITION. What claims about the block speak of: the invariants the spec states (10_state.md R51, R53, R54;
45_sequencer_errors.md R214), the source's session states (R55), and runs of several instructions. -/

namespace Sys2Proof.Machine

/-! ### Invariants -/

/-- R51: `tlen ≤ 1785`, and `len(buf) < tlen`, or `tlen = 0` and `buf = []`. -/
abbrev RxEntry.Ok (e : RxEntry) : Prop :=
  e.tlen.toNat ≤ maxPayload ∧ (e.buf.length < e.tlen.toNat ∨ (e.tlen = 0 ∧ e.buf = []))

/-- R50, R51: one entry per key, keys of two addresses, at most N_RX_SESS entries, every entry as R51 says. -/
abbrev RxsInv (s : State) : Prop :=
  TblWf s.rxs ∧ s.rxs.length ≤ s.params.nRxSess ∧ ∀ p ∈ s.rxs, p.1 < 65536 ∧ p.2.Ok

/-- R53: `9 ≤ len ≤ 1785`, `nseg = ceil(len / 7)`, `len(segs) = 7·nseg`. -/
abbrev TxEntry.Ok (e : TxEntry) : Prop :=
  9 ≤ e.len ∧ e.len ≤ maxPayload ∧ e.nseg = Machine.nseg e.len ∧ e.segs.length = segSize * e.nseg

/-- R52, R53: one entry per key, keys of two addresses with `dst ≠ 0xFF`, at most N_TX_SESS entries. -/
abbrev TxsInv (s : State) : Prop :=
  TblWf s.txs ∧ s.txs.length ≤ s.params.nTxSess ∧
    ∀ p ∈ s.txs, p.1 < 65536 ∧ p.1 % 256 ≠ 255 ∧ p.2.Ok

/-- R54, R167: a queued frame is a complete TP.DT frame to the global address. -/
abbrev PacedFrame (f : Frame) : Prop :=
  f.ext = true ∧ f.data.length = 8 ∧ f.id = tpId pgnTpDt globalAddr (idSa f.id)

/-- R54. -/
abbrev BamqInv (s : State) : Prop :=
  s.bamq.length ≤ s.params.bamqDepth ∧ ∀ f ∈ s.bamq, PacedFrame f

/-- R214: while the block is disabled its tables and its queue are empty. -/
abbrev DisabledInv (s : State) : Prop := s.en = false → s.rxs = [] ∧ s.txs = [] ∧ s.bamq = []

/-- What holds between steps. -/
abbrev Inv (s : State) : Prop :=
  s.params.InRange ∧ Memory.wf s.txbuf ∧ RxsInv s ∧ TxsInv s ∧ BamqInv s ∧ DisabledInv s

/-! ### Session states (R55) -/

/-- The inbound states the tables show (R199); COMPLETE and ABORTED leave no entry, as IDLE does. -/
inductive InboundState where
  | idle
  | rtsReceived
  | dataInFlight
  deriving DecidableEq, Repr

/-- R55, R199: the state of the inbound transfer from `src` to `dst`. -/
def inboundState (s : State) (src dst : Byte) : InboundState :=
  match tblFind s.rxs (pairKey src dst) with
  | none => .idle
  | some e => if e.buf = [] then .rtsReceived else .dataInFlight

/-- R55, R175: whether an outbound RTS transfer from `src` to `dst` is under way. RTS_SENT and DATA_IN_FLIGHT "are not
distinguished in state". -/
def outboundActive (s : State) (src dst : Byte) : Bool := tblHas s.txs (pairKey src dst)

/-- R55, R176: how many frames of outbound BAM transfers of `src` are still queued. -/
def bamInFlight (s : State) (src : Byte) : Nat := (s.bamq.filter fun f => idSa f.id == src).length

/-! ### One emission, in the terms of R24 and R210 -/

/-- Whether the next `emit` makes its attempt stop: the oracle answers ERR and IGN_TXERR = 0 (R210). -/
def nextAborts (s : State) : Bool := decide (nextAnswer s.env = .err) && !s.ignTxerr

/-- The oracle's answer to the emission after `i` more (R24, log entry 2). -/
def drawAt (e : Env) (i : Nat) : TxAns :=
  nextAnswer { e with answers := e.answers.drop i, draws := e.draws + i }

/-- The state after one `emit` of `f` and, where the answer is ERR, `txfail` (R24, R210, R211). -/
def afterEmit (f : Frame) (s : State) : State :=
  { s with
    txerrCnt := if nextAnswer s.env = .err then s.txerrCnt + 1 else s.txerrCnt
    txerr := s.txerr || nextAborts s
    env := { s.env with
      answers := s.env.answers.tail
      draws := s.env.draws + 1
      outs := s.env.outs ++ [.tx { frame := f, ans := nextAnswer s.env }] } }

/-- The state with one more thing out of a port. -/
def withOut (o : PortOut) (s : State) : State := { s with env := { s.env with outs := s.env.outs ++ [o] } }

/-- A write's response OKAY, as it leaves the HOST port (R60). -/
abbrev okayOut : PortOut := .host { resp := .okay, rdata := none }

/-- A host access of this step that is a SEND: the command itself, or the write to CMD that carries its opcode (R99). -/
def isSend (i : Instr) : Prop := i = .send ∨ ∃ w, i = .wCmd w ∧ opcOf w = 3

/-- A CTRL write that shuts the block down (R214, R215). -/
def isShutdown (i : Instr) (s : State) : Prop := ∃ w, i = .wCtrl w ∧ s.en = true ∧ w.getLsbD 0 = false

/-- A received frame or a pace tick (R20: the steps of BUS and PACER). -/
def isBusOrPacer (i : Instr) : Prop := i = .paceTick ∨ ∃ f, decode (.rx f) = .ok i

/-! ### Runs -/

/-- Several instructions one after the other, stopping at the first fault or refusal. -/
def runInstrs : List Instr → State → Out
  | [], s => .next s
  | i :: is, s =>
    match exec i s with
    | .next t => runInstrs is t
    | .fault r => .fault r
    | .refused r => .refused r

/-- The data frames of a payload, as the inputs of the receiver of a transfer from `src` to `dst` (R71, R93, R139). -/
def dataFrames (prio : Prio) (dst src : Byte) (p : List Byte) : List Instr :=
  (List.range (nseg p.length)).map fun i => .rxDt prio dst src (dtData (i + 1) (tpPad p))

end Sys2Proof.Machine
end

