-- ==== Sys2Proof/WellFormed.lean ====
section
/-! DEFINITION. Which terms of `Instr` stand for an instruction the block can meet: the operand bounds of the
formats (R22, R88, R93, R136) and the conditions by which one row of the table leaves a word to another (R62, R63,
R66, R103). -/

namespace Sys2Proof

open Machine

/-- A frame record CAN_RX may carry (R22): at most 8 data bytes, and a standard identifier of 11 bits. -/
abbrev Frame.OnPort (f : Frame) : Prop :=
  f.data.length ≤ 8 ∧ (f.ext = false → f.id.toNat < 0x800)

/-- An input an agent may give (R20). -/
def Input.wellFormed : Input → Bool
  | .host _ => true
  | .cmd _ => true
  | .rx f => decide f.OnPort
  | .pace => true
  | .rst => true

/-- The checks on an instruction's operands, one line per constructor. -/
def Instr.wellFormed : Instr → Bool
  | .nop => true
  | .buildId => true
  | .setDest => true
  | .send => true
  | .reservedCmd4 => true
  | .reservedCmd5 => true
  | .reservedCmd6 => true
  | .reservedCmd7 => true
  | .reservedCmd8 => true
  | .reservedCmd9 => true
  | .reservedCmdA => true
  | .reservedCmdB => true
  | .reservedCmdC => true
  | .reservedCmdD => true
  | .reservedCmdE => true
  | .reservedCmdF => true
  | .rxStd _ data => decide (data.length ≤ 8)
  | .rxCmBadlen _ _ _ data => decide (data.length < 8)
  | .rxRts _ _ _ _ _ _ => true
  | .rxCts _ _ _ _ _ => true
  | .rxEomack _ _ _ => true
  | .rxBam _ _ _ _ _ _ => true
  | .rxAbort _ _ _ => true
  | .rxCmOther _ _ _ ctl => !knownCtl ctl
  | .rxDt _ _ _ data => decide (data.length ≤ 8)
  | .rxPass id data => decide (data.length ≤ 8 ∧ idClass id ≠ tpCmClass ∧ idClass id ≠ tpDtClass)
  | .paceTick => true
  | .reset => true
  | .wCtrl _ => true
  | .wStatus _ => true
  | .wIe _ => true
  | .wCmd _ => true
  | .wArgId _ => true
  | .wArgPgn _ => true
  | .wArgAddr _ => true
  | .wArgLen _ => true
  | .wPvCnt _ => true
  | .wTxerrCnt _ => true
  | .wDropCnt _ => true
  | .wClaimed0 _ => true
  | .wClaimed1 _ => true
  | .wClaimed2 _ => true
  | .wClaimed3 _ => true
  | .wClaimed4 _ => true
  | .wClaimed5 _ => true
  | .wClaimed6 _ => true
  | .wClaimed7 _ => true
  | .wTxbuf off size _ => decide (0x800 ≤ off.toNat) && accessLegal off size
  | .wRegOther off _ =>
    decide (off.toNat < 0x800) && accessLegal off .b4 && !writableOffsets.contains off.toNat
  | .rReg off => decide (off.toNat < 0x800) && accessLegal off .b4
  | .rTxbuf off size => decide (0x800 ≤ off.toNat) && accessLegal off size
  | .hostIllegal _ off size _ => !accessLegal off size
  | .txShort _ data => decide (data.length ≤ 8)
  | .txRts _ _ _ _ _ => true
  | .txBam _ _ _ _ => true
  | .txDtRts dst _ seq seg => decide (dst ≠ globalAddr ∧ seq ≠ 0 ∧ seg.length = 7)
  | .txDtBam _ seq seg => decide (seq ≠ 0 ∧ seg.length = 7)
  | .txCts _ _ _ _ => true
  | .txEomack _ _ _ _ _ => true
  | .pgnPack _ _ _ _ => true
  | .pgnFields _ => true
  | .isPdu1 _ => true
  | .pgnNumber _ => true
  | .idPack _ _ _ => true
  | .idUnpack _ => true
  | .idDest _ => true
  | .withDest _ _ => true
  | .segments _ n => decide (1 ≤ n)
  | .nseg _ => true
  | .tpPad _ => true

end Sys2Proof
end

