-- ==== Sys2Proof/Certificates/Slice0/Obligations.lean ====
section
/-! DEFINITION. The statements for the provers, each from numbered rules of spec/. -/

open Sys2Proof Sys2Proof.Machine

/-! ## Encoding and decoding -/

/-- Every instruction an agent can give decodes from its encoding, with every operand (R61 to R63, R85 to R98, R103). -/
def Obligations.DecodeOfEncodedInstruction : Prop :=
  ∀ (i : Instr) (x : Input), i.wellFormed = true → encode i = some x → decode x = .ok i

/-- Every emitted frame is recognised as its EMIT_IW row, with every operand (R110); a short PDU where its bits are
those of no TP row. -/
def Obligations.DecodeOfEmittedFrame : Prop :=
  ∀ (i : Instr) (f : Frame), i.wellFormed = true → encodeEmitted i = some f →
    (∀ id data, i = .txShort id data → classifyEmitted f = .short) → decodeEmitted f = i

/-- R114: no encoding is undecoded: every CMD value, and every record a port may carry (R22), is exactly one instruction,
and that a well-formed one. -/
def Obligations.EveryPortRecordDecodes : Prop :=
  (∀ w : Word, ∃ i, decode (.cmd w) = .ok i ∧ i.wellFormed = true) ∧
  (∀ x : Input, x.wellFormed = true → ∃ i, decode x = .ok i ∧ i.wellFormed = true)

/-- R103 with R104 and R105: which frames each row of the intake map classifies. `idClass` is cat(R, DP, PF). -/
def Obligations.IntakeMapClassifiesFrames : Prop :=
  ∀ f : Frame, classify f =
    if f.ext = false then .std
    else if idClass f.id = 0x0EC then
      if f.data.length ≠ 8 then .cmBadlen
      else if f.data.getD 0 0 = 0x10 then .rts
      else if f.data.getD 0 0 = 0x11 then .cts
      else if f.data.getD 0 0 = 0x13 then .eomack
      else if f.data.getD 0 0 = 0x20 then .bam
      else if f.data.getD 0 0 = 0xFF then .abort
      else .cmOther
    else if idClass f.id = 0x0EB then .dt
    else .pass

/-- A few words written out from the tables of R61, R99 and R103. -/
def Obligations.WordsOfTheTablesDecode : Prop :=
  decode (.cmd 0x00000001) = .ok .buildId ∧
  decode (.cmd 0xABCDEF03) = .ok .send ∧
  decode (.host { dir := .write, off := 0x000, size := .b4, wdata := 0x3 }) = .ok (.wCtrl 0x3) ∧
  decode (.host { dir := .write, off := 0x002, size := .b4, wdata := 0x0 }) =
    .ok (.hostIllegal .write 0x002 .b4 0x0) ∧
  decode (.host { dir := .read, off := 0x800, size := .b2, wdata := 0x0 }) = .ok (.rTxbuf 0x800 .b2) ∧
  decode (.rx { ext := true, id := 0x1CEC2580, data := [0x10, 0x10, 0x00, 0x03, 0xFF, 0x00, 0xEF, 0x00] }) =
    .ok (.rxRts 7 0x25 0x80 16 3 0x0EF00) ∧
  decode (.rx { ext := true, id := 0x1CEC8025, data := [0x11, 0x02, 0x03, 0xFF, 0xFF, 0x00, 0xEF, 0x00] }) =
    .ok (.rxCts 7 0x80 0x25 2 3) ∧
  decode (.rx { ext := true, id := 0x1DEC2580, data := [0x10] }) = .ok (.rxPass 0x1DEC2580 [0x10])

/-- R14: a step is the next input's instruction, executed on the state without that input; with none pending nothing
changes (the model's choice, log entry 1), and a record no port carries is refused by name (log entry 11). -/
def Obligations.StepRunsTheDecodedInstruction : Prop :=
  (∀ s : State, s.env.inputs = [] → step s = .next s) ∧
  (∀ (s : State) (x : Input) (xs : List Input) (i : Instr), s.env.inputs = x :: xs → decode x = .ok i →
    step s = exec i { s with env := { s.env with inputs := xs } }) ∧
  (∀ (s : State) (x : Input) (xs : List Input) (why : DecodeError), s.env.inputs = x :: xs →
    decode x = .error why → step s = .refused (.badInput why)) ∧
  (∀ f : Frame, 8 < f.data.length → decode (.rx f) = .error .frameTooLong) ∧
  (∀ f : Frame, f.data.length ≤ 8 → f.ext = false → 0x800 ≤ f.id.toNat →
    decode (.rx f) = .error .stdIdTooWide) ∧
  (∀ (s : State) (nbits w : Nat) (i : Instr), decodeTableWord nbits w = some i →
    step (s.withFetchWord nbits w) = exec i s)

/-- R99: a write to CMD performs the command of its OPC (bits 3:0, R98) in that step, and writes RESULT. -/
def Obligations.CmdWriteRunsItsCommand : Prop :=
  ∀ (w : Word) (s : State),
    exec (.wCmd w) s = exec (decodeCmd w) s ∧
    (w.toNat % 16 = 0 → decodeCmd w = .nop ∧
      exec (.wCmd w) s = .next (withOut okayOut { s with result := .ok })) ∧
    (w.toNat % 16 = 1 → decodeCmd w = .buildId) ∧
    (w.toNat % 16 = 2 → decodeCmd w = .setDest) ∧
    (w.toNat % 16 = 3 → decodeCmd w = .send) ∧
    (4 ≤ w.toNat % 16 → exec (.wCmd w) s = .next (withOut okayOut { s with result := .illegalCmd }))

/-! ## The codec -/

/-- R116, R117: the PGN's fields stand at bits 17, 16, 15:8 and 7:0, and packing the fields of a value gives it back. -/
def Obligations.PgnPackAndFields : Prop :=
  (∀ (r dp : Bool) (pf ps : Byte),
    (pgnPack r dp pf ps).toNat = 131072 * r.toNat + 65536 * dp.toNat + 256 * pf.toNat + ps.toNat ∧
    pgnR (pgnPack r dp pf ps) = r ∧ pgnDp (pgnPack r dp pf ps) = dp ∧
    pgnPf (pgnPack r dp pf ps) = pf ∧ pgnPs (pgnPack r dp pf ps) = ps) ∧
  (∀ v : Pgn, pgnPack (pgnR v) (pgnDp v) (pgnPf v) (pgnPs v) = v)

/-- R118, R132: PDU1 iff PF < 240 or R = 1 or DP = 1. -/
def Obligations.Pdu1Classification : Prop :=
  ∀ (r dp : Bool) (pf ps : Byte),
    isPdu1 (pgnPack r dp pf ps) = true ↔ (pf.toNat < 240 ∨ r = true ∨ dp = true)

/-- R119, R131: the broadcast form clears PS under PDU1 and keeps the PGN under PDU2; it is idempotent. -/
def Obligations.BroadcastFormPgn : Prop :=
  ∀ v : Pgn,
    (isPdu1 v = true → (pgnNumber v).toNat = v.toNat / 256 * 256) ∧
    (isPdu1 v = false → pgnNumber v = v) ∧
    isPdu1 (pgnNumber v) = isPdu1 v ∧ pgnNumber (pgnNumber v) = pgnNumber v

/-- R120 to R123: the identifier's layout, and both round trips. -/
def Obligations.ArbitrationIdRoundTrip : Prop :=
  (∀ (p : Prio) (v : Pgn) (sa : Byte),
    (idPack p v sa).toNat = 67108864 * p.toNat + 256 * v.toNat + sa.toNat ∧
    idPrio (idPack p v sa) = p ∧ idPgn (idPack p v sa) = v ∧ idSa (idPack p v sa) = sa ∧
    idDest (idPack p v sa) = (if isPdu1 v then some (pgnPs v) else none)) ∧
  (∀ id : CanId, idPack (idPrio id) (idPgn id) (idSa id) = id)

/-- R130: `with_dest` replaces the PS byte, nothing else, and never changes the class. -/
def Obligations.WithDestReplacesPsOnly : Prop :=
  ∀ (id : CanId) (d : Byte),
    idPs (withDest id d) = d ∧ idPrio (withDest id d) = idPrio id ∧ idClass (withDest id d) = idClass id ∧
    idSa (withDest id d) = idSa id ∧ isPdu1 (idPgn (withDest id d)) = isPdu1 (idPgn id)

/-- R94, with the values R7 and R9 give: the identifiers of the TP frames the block emits. -/
def Obligations.TpFrameIdentifiers : Prop :=
  ∀ d s : Byte,
    (tpId pgnTpCm d s).toNat = 0x1CEC0000 + 256 * d.toNat + s.toNat ∧
    (tpId pgnTpDt d s).toNat = 0x1CEB0000 + 256 * d.toNat + s.toNat

/-- The eleven FUNC rows answer with their function's value and change nothing else (R116 to R122, R130, R136 to R138,
R134); that the value goes to a log of the model is the model's choice (log entry 10), and so is the refusal of the
operand n = 0 that R136 calls not legal (log entry 16), the one refusal of any meaning. -/
def Obligations.CombinationalFunctionsAnswer : Prop :=
  (∀ (i : Instr) (s : State) (r : Refusal), exec i s = .refused r → ∃ bytes, i = .segments bytes 0) ∧
  ∀ s : State,
    (∀ r dp pf ps, exec (.pgnPack r dp pf ps) s = .next (withOut (.func (.pgn (pgnPack r dp pf ps))) s)) ∧
    (∀ v, exec (.pgnFields v) s =
      .next (withOut (.func (.fields (v.getLsbD 17) (v.getLsbD 16) (v.extractLsb' 8 8) (v.extractLsb' 0 8))) s)) ∧
    (∀ v, exec (.isPdu1 v) s = .next (withOut (.func (.bit (isPdu1 v))) s)) ∧
    (∀ v, exec (.pgnNumber v) s = .next (withOut (.func (.pgn (pgnNumber v))) s)) ∧
    (∀ p v sa, exec (.idPack p v sa) s = .next (withOut (.func (.id (idPack p v sa))) s)) ∧
    (∀ id, exec (.idUnpack id) s =
      .next (withOut (.func (.unpacked (id.extractLsb' 26 3) (id.extractLsb' 8 18) (id.extractLsb' 0 8))) s)) ∧
    (∀ id, exec (.idDest id) s = .next (withOut (.func (.dest (idDest id))) s)) ∧
    (∀ id d, exec (.withDest id d) s = .next (withOut (.func (.id (withDest id d))) s)) ∧
    (∀ bytes n, 1 ≤ n → exec (.segments bytes n) s = .next (withOut (.func (.chunks (segments bytes n))) s)) ∧
    (∀ bytes, exec (.segments bytes 0) s = .refused .segmentLengthZero) ∧
    (∀ len, exec (.nseg len) s = .next (withOut (.func (.count (nseg len))) s)) ∧
    (∀ bytes, exec (.tpPad bytes) s = .next (withOut (.func (.bytes (tpPad bytes))) s))

/-! ## Segmentation -/

/-- R137, R138: the segment count is the ceiling of L/7, and the padded payload is the payload and 0 to 6 bytes
0xFF. -/
def Obligations.PaddingToWholeSegments : Prop :=
  (∀ len : Nat, len ≤ 7 * nseg len ∧ 7 * nseg len < len + 7) ∧
  (∀ len : Nat, 9 ≤ len → len ≤ 1785 → 2 ≤ nseg len ∧ nseg len ≤ 255) ∧
  (∀ p : List Byte, (tpPad p).length = 7 * nseg p.length ∧ p <+: tpPad p ∧
    ∀ b ∈ (tpPad p).drop p.length, b = 0xFF)

/-- R136, R139: the chunks joined are the sequence, in order, and every chunk but the last has n bytes; the segments of a
padded payload are its bytes 7(k-1) to 7k, each carried after its sequence byte k. -/
def Obligations.SegmentsCutTheSequence : Prop :=
  (∀ (bytes : List Byte) (n : Nat), 1 ≤ n →
    (segments bytes n).flatten = bytes ∧
    (segments bytes n).length = (bytes.length + n - 1) / n ∧
    (∀ c ∈ (segments bytes n).dropLast, c.length = n) ∧
    (∀ c ∈ segments bytes n, 1 ≤ c.length ∧ c.length ≤ n)) ∧
  (∀ p : List Byte,
    segments (tpPad p) 7 = (List.range (nseg p.length)).map (fun i => ((tpPad p).drop (7 * i)).take 7) ∧
    ∀ i < nseg p.length, (((tpPad p).drop (7 * i)).take 7).length = 7 ∧
      dtData (i + 1) (tpPad p) = BitVec.ofNat 8 (i + 1) :: ((tpPad p).drop (7 * i)).take 7)

/-- R141: the segment bytes of the TP.DT frames 1 to N, in order, cut to the payload's length, are the payload. -/
def Obligations.SegmentationRoundTrip : Prop :=
  ∀ p : List Byte, 9 ≤ p.length → p.length ≤ 1785 →
    (((List.range (nseg p.length)).flatMap fun i => (dtData (i + 1) (tpPad p)).drop 1).take p.length) = p

/-! ## Commands -/

/-- R218, R219: NOP writes OK and a reserved command ILLEGAL_CMD, and nothing else changes. -/
def Obligations.NopAndReservedCommands : Prop :=
  ∀ s : State,
    exec .nop s = .next (withOut okayOut { s with result := .ok }) ∧
    ∀ i ∈ [Instr.reservedCmd4, .reservedCmd5, .reservedCmd6, .reservedCmd7, .reservedCmd8, .reservedCmd9,
      .reservedCmdA, .reservedCmdB, .reservedCmdC, .reservedCmdD, .reservedCmdE, .reservedCmdF],
      exec i s = .next (withOut okayOut { s with result := .illegalCmd })

/-- R128: BUILD_ID. -/
def Obligations.BuildIdResult : Prop :=
  ∀ s : State, exec .buildId s = .next (withOut okayOut
    (if s.argDestPresent = true ∧ isPdu1 s.argPgn = false then { s with result := .invalidOp }
     else { s with
       result := .ok
       argId := idPack s.argPrio
         (if s.argDestPresent = true then s.argPgn.extractLsb' 8 10 ++ s.argDest else s.argPgn) s.argSrc }))

/-- R129: SET_DEST. -/
def Obligations.SetDestResult : Prop :=
  ∀ s : State, exec .setDest s = .next (withOut okayOut
    (if isPdu1 (s.argId.extractLsb' 8 18) = false then { s with result := .invalidOp }
     else { s with
       result := .ok
       argId := s.argId.extractLsb' 16 13 ++ s.argDest ++ s.argId.extractLsb' 0 8 }))

/-- R156: the checks of SEND in their order; the fault names the lowest unwritten byte; otherwise the payload is a copy of
TXBUF[0..L), and SEND goes on with it. -/
def Obligations.SendChecksInOrder : Prop :=
  ∀ s : State,
    (s.en = false → exec .send s = .next (withOut okayOut { s with result := .disabled })) ∧
    (s.en = true → 1785 < s.argLen.toNat →
      exec .send s = .next (withOut okayOut { s with result := .dataTooLarge })) ∧
    (∀ i, s.en = true → s.argLen.toNat ≤ 1785 → i < s.argLen.toNat → txbufW s i = false →
      (∀ j < i, txbufW s j = true) → exec .send s = .fault (.unwrittenTxbuf i)) ∧
    (s.en = true → s.argLen.toNat ≤ 1785 → (∀ i < s.argLen.toNat, txbufW s i = true) →
      ∃ p : List Byte, p.length = s.argLen.toNat ∧ (∀ i : Nat, i < p.length → txbufByte s i = p[i]?) ∧
        exec .send s = .next (withOut okayOut (sendPayload p s)))

/-- R157: SEND of at most 8 bytes emits one frame under ARG_ID, unpadded; `p` is TXBUF[0..L). -/
def Obligations.SendSingleFrame : Prop :=
  ∀ (s : State) (p : List Byte), s.en = true → s.argLen.toNat = p.length → p.length ≤ 8 →
    (∀ i : Nat, i < p.length → txbufByte s i = p[i]?) →
    exec .send s = .next (withOut okayOut
      { afterEmit { ext := true, id := s.argId, data := p } s with
        result := if nextAborts s then .txErr else .ok })

/-- R158 to R162: SEND of 9 to 1785 bytes to one destination. A transfer in flight for the same key is counted and
deleted; then BUSY, or the RTS, and the session stored unless the RTS failed. -/
def Obligations.SendRtsPath : Prop :=
  ∀ (s : State) (p : List Byte) (S D : Byte), s.en = true → s.argLen.toNat = p.length →
    9 ≤ p.length → p.length ≤ 1785 → (∀ i : Nat, i < p.length → txbufByte s i = p[i]?) →
    S = s.argId.extractLsb' 0 8 → D = s.argId.extractLsb' 8 8 →
    isPdu1 (s.argId.extractLsb' 8 18) = true → D ≠ 0xFF →
    let pgn := pgnNumber (s.argId.extractLsb' 8 18)
    let s1 := if tblHas s.txs (pairKey S D) then
        { s with pvCnt := s.pvCnt + 1, pv := true, txs := tblErase s.txs (pairKey S D) } else s
    let rts : Frame := { ext := true, id := tpId pgnTpCm D S, data :=
      [0x10, BitVec.ofNat 8 p.length, BitVec.ofNat 8 (p.length / 256), BitVec.ofNat 8 (nseg p.length), 0xFF,
       pgn.extractLsb' 0 8, pgn.extractLsb' 8 8, (pgn.extractLsb' 16 2).setWidth 8] }
    exec .send s = .next (withOut okayOut
      (if s1.txs.length = s.params.nTxSess then { s1 with result := .busy }
       else if nextAborts s then { afterEmit rts s1 with result := .txErr }
       else { afterEmit rts s1 with
         result := .ok
         txs := tblInsert s1.txs (pairKey S D)
           { len := p.length, nseg := nseg p.length, pgn := pgn, segs := tpPad p } }))

/-- R158, R163 to R165, R167: SEND of 9 to 1785 bytes to all. QUEUE_FULL, or the BAM, and the TP.DT frames queued unless
the BAM failed. -/
def Obligations.SendBamPath : Prop :=
  ∀ (s : State) (p : List Byte) (S : Byte), s.en = true → s.argLen.toNat = p.length →
    9 ≤ p.length → p.length ≤ 1785 → (∀ i : Nat, i < p.length → txbufByte s i = p[i]?) →
    S = s.argId.extractLsb' 0 8 →
    (isPdu1 (s.argId.extractLsb' 8 18) = false ∨ s.argId.extractLsb' 8 8 = (0xFF : Byte)) →
    let pgn := pgnNumber (s.argId.extractLsb' 8 18)
    let bam : Frame := { ext := true, id := tpId pgnTpCm 0xFF S, data :=
      [0x20, BitVec.ofNat 8 p.length, BitVec.ofNat 8 (p.length / 256), BitVec.ofNat 8 (nseg p.length), 0xFF,
       pgn.extractLsb' 0 8, pgn.extractLsb' 8 8, (pgn.extractLsb' 16 2).setWidth 8] }
    exec .send s = .next (withOut okayOut
      (if s.params.bamqDepth - s.bamq.length < nseg p.length then { s with result := .queueFull }
       else if nextAborts s then { afterEmit bam s with result := .txErr }
       else { afterEmit bam s with
         result := .ok
         bamq := s.bamq ++ (List.range (nseg p.length)).map fun i =>
           { ext := true, id := tpId pgnTpDt 0xFF S,
             data := BitVec.ofNat 8 (i + 1) :: ((tpPad p).drop (7 * i)).take 7 } }))

/-! ## Received frames -/

/-- R146, R205: while CTRL.EN = 0 a received frame or a tick changes nothing. -/
def Obligations.DisabledBlockIgnoresFramesAndTicks : Prop :=
  ∀ (i : Instr) (s : State), isBusOrPacer i → s.en = false → exec i s = .next s

/-- R147, R148, R150, R152: the frames the TP state machine does not act on. -/
def Obligations.DroppedAndPassedFrames : Prop :=
  ∀ s : State, s.en = true →
    (∀ id data, exec (.rxStd id data) s = .next { s with dropCnt := s.dropCnt + 1 }) ∧
    (∀ prio dst src data, exec (.rxCmBadlen prio dst src data) s =
      .next { s with pvCnt := s.pvCnt + 1, pv := true }) ∧
    (∀ prio dst src ctl, exec (.rxCmOther prio dst src ctl) s =
      .next { s with pvCnt := s.pvCnt + 1, pv := true }) ∧
    (∀ id data, exec (.rxPass id data) s =
      .next (withOut (.pdu { kind := .frame, id := id, len := data.length, data := data }) s))

/-- R180, R182 to R188: a received RTS (`isRts`) or BAM. An entry of the same key is counted and deleted first; then a
length over 1785 counts PV, a full table counts DROP, else the entry is created whatever the destination is; and an RTS to
a claimed destination is granted whole, a failed CTS leaving the entry. -/
def Obligations.AnnouncementsOpenSessions : Prop :=
  ∀ (s : State) (isRts : Bool) (prio : Prio) (dst src : Byte) (tlen : BitVec 16) (tseg : Byte) (pgn : Pgn),
    let s1 := if tblHas s.rxs (pairKey src dst) then
        { s with pvCnt := s.pvCnt + 1, pv := true, rxs := tblErase s.rxs (pairKey src dst) } else s
    let s2 := { s1 with
      rxs := tblInsert s1.rxs (pairKey src dst)
        { kind := if isRts then .rts else .bam, prio := prio, tlen := tlen, tseg := tseg, pgn := pgn, buf := [] } }
    s.en = true →
    exec (if isRts then .rxRts prio dst src tlen tseg pgn else .rxBam prio dst src tlen tseg pgn) s = .next
      (if 1785 < tlen.toNat then { s1 with pvCnt := s1.pvCnt + 1, pv := true }
       else if s1.rxs.length = s.params.nRxSess then { s1 with dropCnt := s1.dropCnt + 1 }
       else if isRts = true ∧ isClaimed s dst = true then
        afterEmit { ext := true, id := tpId pgnTpCm src dst, data :=
          [0x11, tseg, 0x01, 0xFF, 0xFF,
           pgn.extractLsb' 0 8, pgn.extractLsb' 8 8, (pgn.extractLsb' 16 2).setWidth 8] } s2
       else s2)

/-- R182: an RTS or a BAM for a key already in RXS deletes the old entry with its whole buffer, counts a violation, and is
then handled as if no entry had existed. -/
def Obligations.ReplacementDiscardsTheOldSession : Prop :=
  ∀ (s : State) (prio : Prio) (dst src : Byte) (tlen : BitVec 16) (tseg : Byte) (pgn : Pgn) (i : Instr),
    (i = .rxRts prio dst src tlen tseg pgn ∨ i = .rxBam prio dst src tlen tseg pgn) →
    s.en = true → tblHas s.rxs (pairKey src dst) = true →
    let s1 := { s with pvCnt := s.pvCnt + 1, pv := true, rxs := tblErase s.rxs (pairKey src dst) }
    tblHas s1.rxs (pairKey src dst) = false ∧ exec i s = exec i s1

/-- R168 to R171: a CTS without a held transfer, and one with start = 0, counts PV and nothing else. A CTS for a held
transfer emits its window, the segments start to start + count - 1 that exist, in order. With IGN_TXERR = 1 every frame of
it; with IGN_TXERR = 0 up to and with the first that fails. Each frame takes the
oracle's next draw (R24; where the draws stand is log entry 2), and nothing else changes but what R210 says of each
failure. -/
def Obligations.CtsSendsExactlyItsWindow : Prop :=
  ∀ (s : State) (prio : Prio) (dst src count start : Byte), s.en = true →
    ((tblHas s.txs (pairKey dst src) = false ∨ start = 0) →
      exec (.rxCts prio dst src count start) s = .next { s with pvCnt := s.pvCnt + 1, pv := true }) ∧
    ∀ e : TxEntry, tblFind s.txs (pairKey dst src) = some e → start ≠ 0 →
    let window : List Frame :=
      (((List.range count.toNat).map fun i => start.toNat + i).filter fun k => k ≤ e.nseg).map fun k =>
        { ext := true, id := tpId pgnTpDt src dst,
          data := BitVec.ofNat 8 k :: (e.segs.drop (7 * (k - 1))).take 7 }
    ∃ (t : State) (rs : List TxRec),
      exec (.rxCts prio dst src count start) s = .next t ∧
      rs.map TxRec.frame <+: window ∧
      rs.map TxRec.ans = (List.range rs.length).map (drawAt s.env) ∧
      ((s.ignTxerr = true ∨ ∀ r ∈ rs, r.ans = .ok) → rs.map TxRec.frame = window) ∧
      (s.ignTxerr = false → ∀ r ∈ rs.dropLast, r.ans = .ok) ∧
      t.txerrCnt = s.txerrCnt + BitVec.ofNat 32 (rs.countP fun r => r.ans = .err) ∧
      t.txerr = (s.txerr || (!s.ignTxerr && rs.any fun r => r.ans = .err)) ∧
      t = { s with
        txerrCnt := t.txerrCnt
        txerr := t.txerr
        env := { s.env with
          answers := s.env.answers.drop rs.length
          draws := s.env.draws + rs.length
          outs := s.env.outs ++ rs.map PortOut.tx } }

/-- R173: a CTS or an EOM-ACK whose key is not in TXS counts PV, and nothing else. -/
def Obligations.OrphansAreViolations : Prop :=
  ∀ (s : State) (prio : Prio) (dst src : Byte), s.en = true → tblHas s.txs (pairKey dst src) = false →
    (∀ count start, exec (.rxCts prio dst src count start) s =
      .next { s with pvCnt := s.pvCnt + 1, pv := true }) ∧
    exec (.rxEomack prio dst src) s = .next { s with pvCnt := s.pvCnt + 1, pv := true }

/-- R172, R198: an EOM-ACK deletes the TX session of its key and counts PV where there is none; an Abort deletes the RX
session of its key, if any, and nothing else. -/
def Obligations.EomackAndAbortDeleteTheirSession : Prop :=
  ∀ (s : State) (prio : Prio) (dst src : Byte), s.en = true →
    (tblHas s.txs (pairKey dst src) = true →
      ∃ t, exec (.rxEomack prio dst src) s = .next t ∧ t = { s with txs := t.txs } ∧
        ∀ k, tblFind t.txs k = if k = pairKey dst src then none else tblFind s.txs k) ∧
    (tblHas s.txs (pairKey dst src) = false →
      exec (.rxEomack prio dst src) s = .next { s with pvCnt := s.pvCnt + 1, pv := true }) ∧
    (∃ t, exec (.rxAbort prio dst src) s = .next t ∧ t = { s with rxs := t.rxs } ∧
      ∀ k, tblFind t.rxs k = if k = pairKey src dst then none else tblFind s.rxs k)

/-- R189, R190: a data frame without a sequence byte or without a session is dropped and counted; one that does not
complete its session appends its bytes after the first, in arrival order. -/
def Obligations.DataFrameDroppedOrAppended : Prop :=
  ∀ (s : State) (prio : Prio) (dst src : Byte) (data : List Byte), s.en = true →
    ((data = [] ∨ tblHas s.rxs (pairKey src dst) = false) →
      exec (.rxDt prio dst src data) s = .next { s with dropCnt := s.dropCnt + 1 }) ∧
    (∀ (seq : Byte) (bytes : List Byte) (e : RxEntry), data = seq :: bytes →
      tblFind s.rxs (pairKey src dst) = some e → e.buf.length + bytes.length < e.tlen.toNat →
      ∃ t, exec (.rxDt prio dst src data) s = .next t ∧ t = { s with rxs := t.rxs } ∧
        ∀ k, tblFind t.rxs k =
          if k = pairKey src dst then some { e with buf := e.buf ++ bytes } else tblFind s.rxs k)

/-- R191 to R195: a data frame that completes its session. The buffer is cut to the declared length; an RTS session of a
claimed destination emits its EOM-ACK first, and if that fails with IGN_TXERR = 0 the PDU is not delivered; the session
is deleted in every case. -/
def Obligations.DataFrameCompletesItsSession : Prop :=
  ∀ (s : State) (prio : Prio) (dst src seq : Byte) (bytes : List Byte) (e : RxEntry), s.en = true →
    tblFind s.rxs (pairKey src dst) = some e → e.tlen.toNat ≤ e.buf.length + bytes.length →
    let pdu : PduRec :=
      { kind := .tp
        id := idPack e.prio (if isPdu1 e.pgn = true then e.pgn.extractLsb' 8 10 ++ dst else e.pgn) src
        len := e.tlen.toNat
        data := (e.buf ++ bytes).take e.tlen.toNat }
    let eomack : Frame := { ext := true, id := tpId pgnTpCm src dst, data :=
      [0x13, e.tlen.extractLsb' 0 8, e.tlen.extractLsb' 8 8, e.tseg, 0xFF,
       e.pgn.extractLsb' 0 8, e.pgn.extractLsb' 8 8, (e.pgn.extractLsb' 16 2).setWidth 8] }
    exec (.rxDt prio dst src (seq :: bytes)) s = .next
      (if e.kind = .rts ∧ isClaimed s dst = true then
        if nextAborts s then { afterEmit eomack s with rxs := tblErase s.rxs (pairKey src dst) }
        else withOut (.pdu pdu) { afterEmit eomack s with rxs := tblErase s.rxs (pairKey src dst) }
       else withOut (.pdu pdu) { s with rxs := tblErase s.rxs (pairKey src dst) })

/-- R141 with R189 to R195, over the machine: the TP.DT frames of a payload of 9 to 1785 bytes, received in order by an
open session of that length, deliver exactly that payload and delete the session; an RTS session of a claimed
destination whose EOM-ACK does not fail emits it before. -/
def Obligations.ReassemblyDeliversThePayload : Prop :=
  ∀ (s : State) (prio : Prio) (dst src : Byte) (p : List Byte) (e : RxEntry), s.en = true →
    9 ≤ p.length → p.length ≤ 1785 → tblFind s.rxs (pairKey src dst) = some e →
    e.tlen.toNat = p.length → e.buf = [] →
    let pdu : PduRec :=
      { kind := .tp
        id := idPack e.prio (if isPdu1 e.pgn = true then e.pgn.extractLsb' 8 10 ++ dst else e.pgn) src
        len := p.length
        data := p }
    ((e.kind = .bam ∨ isClaimed s dst = false) →
      runInstrs (dataFrames prio dst src p) s =
        .next (withOut (.pdu pdu) { s with rxs := tblErase s.rxs (pairKey src dst) })) ∧
    (e.kind = .rts → isClaimed s dst = true → nextAborts s = false →
      runInstrs (dataFrames prio dst src p) s =
        .next (withOut (.pdu pdu)
          { afterEmit (eomackFrame src dst e.tlen e.tseg e.pgn) s with
            rxs := tblErase s.rxs (pairKey src dst) }))

/-! ## Sequencer, reset, emitted frames -/

/-- R205: a tick emits the oldest queued frame and drops it from the queue whatever the answer; while disabled, or with an
empty queue, it does nothing. -/
def Obligations.PaceTickSendsTheOldestFrame : Prop :=
  ∀ s : State,
    ((s.en = false ∨ s.bamq = []) → exec .paceTick s = .next s) ∧
    (∀ f q, s.en = true → s.bamq = f :: q → exec .paceTick s = .next (afterEmit f { s with bamq := q }))

/-- R57, R245: RESET gives every piece of the block's state its reset value in one step; IRQ is then 0 and nothing leaves a
port. -/
def Obligations.ResetLeavesTheResetValues : Prop :=
  ∀ s : State, ∃ t, exec .reset s = .next t ∧
    (t.en = false ∧ t.ignTxerr = false ∧ t.txerr = false ∧ t.pv = false ∧ t.txerrIe = false ∧ t.pvIe = false ∧
      t.result = .ok ∧ t.argId = 0 ∧ t.argPgn = 0 ∧ t.argPrio = 0 ∧ t.argSrc = 0 ∧ t.argDest = 0 ∧
      t.argDestPresent = false ∧ t.argLen = 0 ∧ t.pvCnt = 0 ∧ t.txerrCnt = 0 ∧ t.dropCnt = 0 ∧
      (∀ a, isClaimed t a = false) ∧ (∀ i, txbufW t i = false) ∧ t.rxs = [] ∧ t.txs = [] ∧ t.bamq = []) ∧
    irq t = false ∧ t.env.outs = s.env.outs

/-- R48, R59: what RESET does not touch: the parameters, which are constant for a given block, and what stands outside it.
That both are kept in State is the model's choice (log entries 1 to 4). -/
def Obligations.ResetKeepsTheParametersAndPorts : Prop :=
  ∀ s : State, exec .reset s = .next { State.reset with params := s.params, env := s.env }

/-- R110 with R89 to R94: every frame the block emits, byte by byte, as its EMIT_IW row puts it on CAN_TX. That a row is
an instruction of its own is the model's choice (log entry 9). Then R24 and R210: the oracle's next answer, whichever it is, is
the one recorded with the frame, counted where it is ERR, and flagged where IGN_TXERR = 0; that supplied answers are a list
and the others a free value is the model's choice (log entry 2). -/
def Obligations.EmittedFramesByteByByte : Prop :=
  ∀ (s : State) (dst src n : Byte) (len : BitVec 16) (pgn : Pgn) (seq : Byte) (seg : List Byte),
    let l0 : Byte := len.extractLsb' 0 8
    let l1 : Byte := len.extractLsb' 8 8
    let g0 : Byte := pgn.extractLsb' 0 8
    let g1 : Byte := pgn.extractLsb' 8 8
    let g2 : Byte := (pgn.extractLsb' 16 2).setWidth 8
    (∀ (id : CanId) (data : List Byte), exec (.txShort id data) s =
      .next (afterEmit { ext := true, id := id, data := data } s)) ∧
    exec (.txRts dst src len n pgn) s = .next (afterEmit
      { ext := true, id := tpId pgnTpCm dst src, data := [0x10, l0, l1, n, 0xFF, g0, g1, g2] } s) ∧
    exec (.txBam src len n pgn) s = .next (afterEmit
      { ext := true, id := tpId pgnTpCm 0xFF src, data := [0x20, l0, l1, n, 0xFF, g0, g1, g2] } s) ∧
    exec (.txDtRts dst src seq seg) s = .next (afterEmit
      { ext := true, id := tpId pgnTpDt dst src, data := seq :: seg } s) ∧
    exec (.txDtBam src seq seg) s = .next (afterEmit
      { ext := true, id := tpId pgnTpDt 0xFF src, data := seq :: seg } s) ∧
    exec (.txCts dst src n pgn) s = .next (afterEmit
      { ext := true, id := tpId pgnTpCm dst src, data := [0x11, n, 0x01, 0xFF, 0xFF, g0, g1, g2] } s) ∧
    exec (.txEomack dst src len n pgn) s = .next (afterEmit
      { ext := true, id := tpId pgnTpCm dst src, data := [0x13, l0, l1, n, 0xFF, g0, g1, g2] } s) ∧
    (∀ (f : Frame) (a : TxAns) (as : List TxAns), s.env.answers = a :: as →
      nextAborts s = (decide (a = .err) && !s.ignTxerr) ∧
      afterEmit f s = { s with
        txerrCnt := if a = .err then s.txerrCnt + 1 else s.txerrCnt
        txerr := s.txerr || (decide (a = .err) && !s.ignTxerr)
        env := { s.env with
          answers := as
          draws := s.env.draws + 1
          outs := s.env.outs ++ [.tx { frame := f, ans := a }] } }) ∧
    (s.env.answers = [] → nextAnswer s.env = Config.freeAnswer s.env.draws)

/-! ## Host accesses -/

/-- R214: a CTRL write sets EN and IGN_TXERR, and empties the tables and the queue (R215) exactly where EN falls; where
EN rises they are empty, given that they are while EN = 0. -/
def Obligations.CtrlWriteStartsAndShutsDown : Prop :=
  ∀ (w : Word) (s : State),
    exec (.wCtrl w) s = .next (withOut okayOut
      (if s.en = true ∧ w.getLsbD 0 = false then
        { s with en := false, ignTxerr := w.getLsbD 1, rxs := [], txs := [], bamq := [] }
       else { s with en := w.getLsbD 0, ignTxerr := w.getLsbD 1 })) ∧
    (DisabledInv s → s.en = false → w.getLsbD 0 = true →
      ∃ t, exec (.wCtrl w) s = .next t ∧ t.en = true ∧ t.rxs = [] ∧ t.txs = [] ∧ t.bamq = [])

/-- R67, R220, R221, R232: STATUS is write 1 to clear, IE takes its two bits, and IRQ follows both. -/
def Obligations.StatusAndEnableWrites : Prop :=
  ∀ (w : Word) (s : State),
    exec (.wStatus w) s = .next (withOut okayOut
      { s with
        txerr := if w.getLsbD 0 = true then false else s.txerr
        pv := if w.getLsbD 1 = true then false else s.pv }) ∧
    exec (.wIe w) s = .next (withOut okayOut { s with txerrIe := w.getLsbD 0, pvIe := w.getLsbD 1 }) ∧
    (irq s = true ↔ (s.txerr = true ∧ s.txerrIe = true) ∨ (s.pv = true ∧ s.pvIe = true))

/-- R224: the argument register writes, reserved bits dropped. -/
def Obligations.ArgumentRegisterWrites : Prop :=
  ∀ (w : Word) (s : State),
    exec (.wArgId w) s = .next (withOut okayOut { s with argId := w.extractLsb' 0 29 }) ∧
    exec (.wArgPgn w) s = .next (withOut okayOut { s with argPgn := w.extractLsb' 0 18 }) ∧
    exec (.wArgLen w) s = .next (withOut okayOut { s with argLen := w.extractLsb' 0 11 }) ∧
    ∃ t, exec (.wArgAddr w) s = .next t ∧
      regWord t 0x01C = w &&& 0x01FFFF07 ∧
      t = withOut okayOut { s with
        argPrio := t.argPrio, argSrc := t.argSrc, argDest := t.argDest, argDestPresent := t.argDestPresent }

/-- R217: a write of any value to a counter sets it to 0, and nothing else changes. -/
def Obligations.CounterWritesClear : Prop :=
  ∀ (w : Word) (s : State),
    exec (.wPvCnt w) s = .next (withOut okayOut { s with pvCnt := 0 }) ∧
    exec (.wTxerrCnt w) s = .next (withOut okayOut { s with txerrCnt := 0 }) ∧
    exec (.wDropCnt w) s = .next (withOut okayOut { s with dropCnt := 0 })

/-- R40, R222: after a write of CLAIMEDj the addresses 32j to 32j + 31 are claimed as its bits say, except that address
255 never is; the others stay; nothing else changes. -/
def Obligations.ClaimedWordWrites : Prop :=
  (∀ s : State, isClaimed s 0xFF = false) ∧
  ∀ (w : Word) (s : State), ∀ ji ∈ [(0, Instr.wClaimed0 w), (1, .wClaimed1 w), (2, .wClaimed2 w), (3, .wClaimed3 w),
      (4, .wClaimed4 w), (5, .wClaimed5 w), (6, .wClaimed6 w), (7, .wClaimed7 w)],
    ∃ t, exec ji.2 s = .next t ∧
      (∀ a : Byte, isClaimed t a =
        if a.toNat / 32 = ji.1 then w.getLsbD (a.toNat % 32) && decide (a ≠ 0xFF) else isClaimed s a) ∧
      t = withOut okayOut { s with
        claimed0 := t.claimed0, claimed1 := t.claimed1, claimed2 := t.claimed2, claimed3 := t.claimed3,
        claimed4 := t.claimed4, claimed5 := t.claimed5, claimed6 := t.claimed6, claimed7 := t.claimed7 }

/-- R63, R69, R223: a TXBUF write stores lane k at offset off + k where that lies in 0x800..0xEF8, and every other byte
reads as before. -/
def Obligations.TxbufWriteStoresItsLanes : Prop :=
  ∀ (off : Offset) (size : Size) (w : Word) (s : State), 0x800 ≤ off.toNat → off.toNat % size.bytes = 0 →
    ∃ t, exec (.wTxbuf off size w) s = .next t ∧ t = withOut okayOut { s with txbuf := t.txbuf } ∧
      ∀ i : Nat, txbufByte t i =
        if off.toNat ≤ 0x800 + i ∧ 0x800 + i < off.toNat + size.bytes ∧ i < 1785 then
          some (w.extractLsb' (8 * (0x800 + i - off.toNat)) 8)
        else txbufByte s i

/-- R62, R63, R66, R242: an ignored write answers OKAY and an illegal access ERROR with rdata 0; neither changes
anything. -/
def Obligations.IgnoredAndIllegalAccesses : Prop :=
  ∀ (off : Offset) (size : Size) (w : Word) (s : State),
    exec (.wRegOther off w) s = .next (withOut okayOut s) ∧
    exec (.hostIllegal .write off size w) s = .next (withOut (.host { resp := .error, rdata := none }) s) ∧
    exec (.hostIllegal .read off size w) s = .next (withOut (.host { resp := .error, rdata := some 0 }) s)

/-- R61, R65 with R32 to R48, R101 and R124 to R127: a register read answers OKAY with the word of its offset and changes
nothing; every word of the map as a number, the eight codes of RESULT one by one, and 0 at every other offset. -/
def Obligations.RegisterReadsReturnTheMap : Prop :=
  ∀ s : State,
    (∀ off : Offset, off.toNat < 0x800 → off.toNat % 4 = 0 →
      exec (.rReg off) s = .next (withOut (.host { resp := .okay, rdata := some (regWord s off.toNat) }) s)) ∧
    (regWord s 0x000).toNat = s.en.toNat + 2 * s.ignTxerr.toNat ∧
    (regWord s 0x004).toNat = s.txerr.toNat + 2 * s.pv.toNat + 4 * (decide (s.bamq ≠ [])).toNat +
      8 * (decide (s.rxs.length = s.params.nRxSess)).toNat + 16 * (decide (s.txs.length = s.params.nTxSess)).toNat ∧
    (regWord s 0x008).toNat = s.txerrIe.toNat + 2 * s.pvIe.toNat ∧
    (regWord s 0x010).toNat = resultCode s.result ∧
    (∀ p ∈ [(ResultCode.ok, 0), (.invalidOp, 1), (.dataTooLarge, 2), (.txErr, 3), (.busy, 4), (.queueFull, 5),
        (.disabled, 6), (.illegalCmd, 7)], s.result = p.1 → (regWord s 0x010).toNat = p.2) ∧
    (regWord s 0x014).toNat = s.argId.toNat ∧
    (regWord s 0x018).toNat = s.argPgn.toNat ∧
    (regWord s 0x01C).toNat = s.argPrio.toNat + 256 * s.argSrc.toNat + 65536 * s.argDest.toNat +
      16777216 * s.argDestPresent.toNat ∧
    (regWord s 0x020).toNat = s.argLen.toNat ∧
    (regWord s 0x024).toNat = s.argId.toNat + 1610612736 * (isPdu1 (idPgn s.argId)).toNat ∧
    (regWord s 0x028).toNat = (idPgn s.argId).toNat ∧
    (regWord s 0x02C).toNat = (pgnNumber (idPgn s.argId)).toNat ∧
    (regWord s 0x030).toNat = (if isPdu1 (idPgn s.argId) then 256 + (idPs s.argId).toNat else 0) ∧
    (regWord s 0x034).toNat = s.argPgn.toNat + 262144 * (isPdu1 s.argPgn).toNat ∧
    (regWord s 0x038).toNat = (pgnNumber s.argPgn).toNat ∧
    regWord s 0x040 = s.pvCnt ∧ regWord s 0x044 = s.txerrCnt ∧ regWord s 0x048 = s.dropCnt ∧
    (regWord s 0x04C).toNat = s.rxs.length % 65536 ∧
    (regWord s 0x050).toNat = s.txs.length % 65536 ∧
    (regWord s 0x054).toNat = s.bamq.length % 65536 ∧
    (regWord s 0x058).toNat = s.params.nRxSess % 65536 + 65536 * (s.params.nTxSess % 65536) ∧
    (regWord s 0x05C).toNat = s.params.bamqDepth % 65536 ∧
    (∀ a : Byte, (regWord s (0x060 + 4 * (a.toNat / 32))).getLsbD (a.toNat % 32) = isClaimed s a) ∧
    (∀ off : Nat, (off = 0x00C ∨ off = 0x03C ∨ 0x080 ≤ off) → regWord s off = 0)

/-- R63, R69: a TXBUF read answers lane k with the byte at off + k, 0 where that is no TXBUF byte, and unused lanes with
0; where a lane's byte is unwritten it is the fault of the lowest such byte. -/
def Obligations.TxbufReadReturnsItsLanes : Prop :=
  ∀ (off : Offset) (size : Size) (s : State), 0x800 ≤ off.toNat → off.toNat % size.bytes = 0 →
    ((∀ k < size.bytes, off.toNat + k - 0x800 < 1785 → txbufW s (off.toNat + k - 0x800) = true) →
      ∃ v : Word, exec (.rTxbuf off size) s = .next (withOut (.host { resp := .okay, rdata := some v }) s) ∧
        ∀ k < 4, v.extractLsb' (8 * k) 8 =
          if k < size.bytes ∧ off.toNat + k - 0x800 < 1785 then
            (txbufByte s (off.toNat + k - 0x800)).getD 0 else (0 : Byte)) ∧
    (∀ k < size.bytes, off.toNat + k - 0x800 < 1785 → txbufW s (off.toNat + k - 0x800) = false →
      (∀ j < k, txbufW s (off.toNat + j - 0x800) = true) →
      exec (.rTxbuf off size) s = .fault (.unwrittenTxbuf (off.toNat + k - 0x800)))

/-! ## Whole-machine rules -/

/-- The invariants of R8, R49, R51, R53, R54 and R214 hold at reset. -/
def Obligations.InvariantHoldsAtReset : Prop := Inv State.reset

/-- R51, R53, R54, R214 and the canonical form of TXBUF (R49): every step keeps them. -/
def Obligations.EveryStepKeepsTheInvariant : Prop :=
  ∀ s t : State, Inv s → step s = .next t → Inv t

/-- R58, R235: a sticky bit is cleared only by its W1C write or by reset; R228: STATUS.PV is set in the step that counts a
violation. -/
def Obligations.StickyBitsStay : Prop :=
  ∀ (i : Instr) (s t : State), exec i s = .next t →
    (s.txerr = true → t.txerr = false → i = .reset ∨ ∃ w, i = .wStatus w ∧ w.getLsbD 0 = true) ∧
    (s.pv = true → t.pv = false → i = .reset ∨ ∃ w, i = .wStatus w ∧ w.getLsbD 1 = true) ∧
    (t.pvCnt ≠ s.pvCnt → t.pv = true ∨ i = .reset ∨ ∃ w, i = .wPvCnt w)

/-- R30: only BUILD_ID and SET_DEST write ARG_ID besides the host; R245: and reset. -/
def Obligations.OnlyTheseWriteArgId : Prop :=
  ∀ (i : Instr) (s t : State), exec i s = .next t → t.argId ≠ s.argId →
    i = .buildId ∨ i = .setDest ∨ i = .reset ∨
      ∃ w, i = .wArgId w ∨ (i = .wCmd w ∧ (opcOf w = 1 ∨ opcOf w = 2))

/-- R54: apart from shutdown and reset, the PACER step alone removes frames from BAMQ, the oldest; SEND alone adds. -/
def Obligations.WhoChangesThePacedQueue : Prop :=
  ∀ (i : Instr) (s t : State), exec i s = .next t →
    t.bamq = s.bamq ∨ (isSend i ∧ ∃ q, t.bamq = s.bamq ++ q) ∨ (i = .paceTick ∧ t.bamq = s.bamq.tail) ∨
      ((i = .reset ∨ isShutdown i s) ∧ t.bamq = [])

/-- R174: what ends or replaces a TX session; a received Abort is none of it. -/
def Obligations.TxSessionLifetime : Prop :=
  ∀ (i : Instr) (s t : State) (k : Nat) (e : TxEntry), exec i s = .next t → tblFind s.txs k = some e →
    tblFind t.txs k = some e ∨ i = .reset ∨ isShutdown i s ∨
      (∃ prio dst src, i = .rxEomack prio dst src ∧ k = pairKey dst src) ∨
      (isSend i ∧ k = pairKey (idSa s.argId) (idPs s.argId))

/-- R231: the model faults are exactly these: UnwrittenTxbuf of a byte the host has not written, raised by a SEND that
reads it (the command or the CMD write that carries it) and by a host read that returns it. -/
def Obligations.FaultsAreUnwrittenBytes : Prop :=
  (∀ (i : Instr) (s : State) (r : Fault), exec i s = .fault r →
    (isSend i ∨ ∃ off size, i = .rTxbuf off size) ∧
      ∃ k, r = .unwrittenTxbuf k ∧ k < 1785 ∧ txbufW s k = false) ∧
  (∀ (i : Instr) (s : State) (k : Nat), isSend i → s.en = true → s.argLen.toNat ≤ 1785 → k < s.argLen.toNat →
    txbufW s k = false → ∃ r, exec i s = .fault r) ∧
  (∀ (off : Offset) (size : Size) (s : State) (k : Nat), k < 1785 → off.toNat ≤ 0x800 + k →
    0x800 + k < off.toNat + size.bytes → txbufW s k = false → ∃ r, exec (.rTxbuf off size) s = .fault r)

/-- R202: a frame for one key leaves the sessions of every other key, and the other table, as they were. -/
def Obligations.OtherKeysStayUntouched : Prop :=
  ∀ (i : Instr) (s t : State) (prio : Prio) (dst src a b : Byte), exec i s = .next t →
    (((∃ tlen tseg pgn, i = .rxRts prio dst src tlen tseg pgn ∨ i = .rxBam prio dst src tlen tseg pgn) ∨
        (∃ data, i = .rxDt prio dst src data) ∨ i = .rxAbort prio dst src) →
      t.txs = s.txs ∧
      ((a, b) ≠ (src, dst) → tblFind t.rxs (pairKey a b) = tblFind s.rxs (pairKey a b))) ∧
    (((∃ count start, i = .rxCts prio dst src count start) ∨ i = .rxEomack prio dst src) →
      t.rxs = s.rxs ∧
      ((a, b) ≠ (dst, src) → tblFind t.txs (pairKey a b) = tblFind s.txs (pairKey a b)))

/-- R216, R146, R205, R156: while EN = 0 a step counts nothing, and what leaves a port is a response to the host. -/
def Obligations.DisabledBlockIsSilent : Prop :=
  ∀ s t : State, s.en = false → step s = .next t →
    (t.pvCnt = s.pvCnt ∨ t.pvCnt = 0) ∧ (t.txerrCnt = s.txerrCnt ∨ t.txerrCnt = 0) ∧
    (t.dropCnt = s.dropCnt ∨ t.dropCnt = 0) ∧
    ∃ rs : List HostRsp, t.env.outs = s.env.outs ++ rs.map PortOut.host

/-- R24, R23, R135: every frame a step emits is extended with at most 8 bytes, and every PDU it delivers has at most 1785
bytes and the length it declares. -/
def Obligations.WhatLeavesThePorts : Prop :=
  ∀ s t : State, Inv s → step s = .next t →
    ∃ new : List PortOut, t.env.outs = s.env.outs ++ new ∧
      (∀ r, PortOut.tx r ∈ new → r.frame.ext = true ∧ r.frame.data.length ≤ 8) ∧
      (∀ p, PortOut.pdu p ∈ new → p.len = p.data.length ∧ p.len ≤ 1785)

/-- R151, R153: a record on PDU_OUT is a passed frame, unchanged, or a reassembled PDU of a data frame's session; so no TP
frame is delivered as a frame. -/
def Obligations.WhatIsDelivered : Prop :=
  ∀ (i : Instr) (s t : State), exec i s = .next t →
    ∃ new : List PortOut, t.env.outs = s.env.outs ++ new ∧
      ∀ p, PortOut.pdu p ∈ new →
        (∃ id data, i = .rxPass id data ∧ p = { kind := .frame, id := id, len := data.length, data := data }) ∨
        (p.kind = .tp ∧ ∃ prio dst src data, i = .rxDt prio dst src data)

/-- The frame of every received frame and tick (R20, R29): the registers the host writes, RESULT, CLAIMED, TXBUF, the
parameters and the pending inputs stay. -/
def Obligations.BusAndPacerLeaveTheRegisters : Prop :=
  ∀ (i : Instr) (s t : State), isBusOrPacer i → exec i s = .next t →
    t = { s with
      pvCnt := t.pvCnt, txerrCnt := t.txerrCnt, dropCnt := t.dropCnt, pv := t.pv, txerr := t.txerr,
      rxs := t.rxs, txs := t.txs, bamq := t.bamq,
      env := { s.env with answers := t.env.answers, draws := t.env.draws, outs := t.env.outs } }

/-- R49, R223: TXBUF is changed by a TXBUF write and by reset, and by nothing else: every byte reads as before. -/
def Obligations.OnlyTxbufWritesChangeTxbuf : Prop :=
  ∀ (i : Instr) (s t : State), exec i s = .next t → (∀ off size w, i ≠ .wTxbuf off size w) → i ≠ .reset →
    ∀ k, txbufByte t k = txbufByte s k
end

