-- ==== Sys2Proof/Laws/Decode.lean ====
section
/-! SUPPORT. What a row's mask and pattern say of a frame: the intake word and the identifier taken apart into their
fields. -/

namespace Sys2Proof

open Machine

theorem append_eq_iff {m n : Nat} {a b : BitVec m} {c d : BitVec n} : a ++ c = b ++ d ↔ a = b ∧ c = d := by
  constructor
  · intro h
    refine ⟨?_, ?_⟩
    · have := congrArg (BitVec.extractLsb' n m) h
      simpa only [BitVec.extractLsb'_append_eq_left] using this
    · have := congrArg (BitVec.extractLsb' 0 n) h
      simpa only [BitVec.extractLsb'_append_eq_right] using this
  · rintro ⟨rfl, rfl⟩; rfl

/-- Three fields under a mask, field by field. -/
theorem append3_match {l m n : Nat} (a a' a'' : BitVec l) (b b' b'' : BitVec m) (c c' c'' : BitVec n) :
    (a ++ b ++ c) &&& (a' ++ b' ++ c') = a'' ++ b'' ++ c'' ↔
      a &&& a' = a'' ∧ b &&& b' = b'' ∧ c &&& c' = c'' := by
  rw [BitVec.and_append, BitVec.and_append, append_eq_iff, append_eq_iff, and_assoc]

/-- An intake word under a mask, field by field (R102). -/
theorem intakeWord_match (f : Frame) (me pe : Bool) (mi pi : CanId) (mb pb : Byte) :
    intakeWord f &&& (BitVec.ofBool me ++ mi ++ mb) = BitVec.ofBool pe ++ pi ++ pb ↔
      (f.ext && me) = pe ∧ f.id &&& mi = pi ∧ f.data.getD 0 0 &&& mb = pb := by
  refine (append3_match (BitVec.ofBool f.ext) _ _ f.id _ _ (f.data.getD 0 0) _ _).trans ?_
  refine and_congr_left fun _ => ?_
  cases f.ext <;> cases me <;> cases pe <;> decide

/-- An identifier is its fields (R86). -/
theorem id_eq_fields (id : CanId) : id = idPrio id ++ idClass id ++ idPs id ++ idSa id := by
  refine BitVec.eq_of_getLsbD_eq fun i hi => ?_
  simp only [idPrio, idClass, idPs, idSa, BitVec.getLsbD_append, BitVec.getLsbD_extractLsb']
  interval_cases i <;> rfl

/-- An identifier under a mask, field by field. -/
theorem id_match (id : CanId) (mp pp : Prio) (mc pc : BitVec 10) (md pd ms ps : Byte) :
    id &&& (mp ++ mc ++ md ++ ms) = pp ++ pc ++ pd ++ ps ↔
      idPrio id &&& mp = pp ∧ idClass id &&& mc = pc ∧ idPs id &&& md = pd ∧ idSa id &&& ms = ps := by
  conv_lhs => rw [id_eq_fields id]
  refine (append3_match (idPrio id ++ idClass id) _ _ (idPs id) _ _ (idSa id) _ _).trans ?_
  rw [BitVec.and_append, append_eq_iff, and_assoc]

/-- The class bits of an identifier built for a received TP frame are its class, whatever the rest (R103, R149). -/
theorem rxId_fields (prio : Prio) (cls : BitVec 10) (dst src : Byte) :
    idPrio (rxId prio cls dst src) = prio ∧ idClass (rxId prio cls dst src) = cls ∧
      idPs (rxId prio cls dst src) = dst ∧ idSa (rxId prio cls dst src) = src := by
  have h := id_eq_fields (rxId prio cls dst src)
  rw [rxId, append_eq_iff, append_eq_iff, append_eq_iff] at h
  simp only [rxId]
  tauto

/-- The intake word under a mask that reads EXT, the class bits and data byte 0 (R103). -/
theorem intakeWord_class (f : Frame) (mc pc : BitVec 10) (mb pb : Byte) :
    intakeWord f &&& (1#1 ++ (0#3 ++ mc ++ 0#8 ++ 0#8) ++ mb) = 1#1 ++ (0#3 ++ pc ++ 0#8 ++ 0#8) ++ pb ↔
      f.ext = true ∧ idClass f.id &&& mc = pc ∧ f.data.getD 0 0 &&& mb = pb := by
  rw [show (1#1 : BitVec 1) = BitVec.ofBool true from rfl, intakeWord_match, id_match]
  simp

/-! ### The tests of the intake map's rows (R103) -/

/-- The test of the first row: a standard frame. -/
theorem row_std (f : Frame) : (intakeWord f &&& 0x2000000000 == 0x0000000000) = !f.ext := by
  have h := intakeWord_match f true false 0 0 0 0
  rw [Bool.eq_iff_iff, beq_iff_eq]
  simpa using h

/-- The test of the last row: an extended frame. -/
theorem row_ext (f : Frame) : (intakeWord f &&& 0x2000000000 == 0x2000000000) = f.ext := by
  have h := intakeWord_match f true true 0 0 0 0
  rw [Bool.eq_iff_iff, beq_iff_eq]
  simpa using h

theorem mask10 (v : BitVec 10) : v &&& 0x3FF = v := by
  rw [show (0x3FF : BitVec 10) = BitVec.allOnes 10 from rfl, BitVec.and_allOnes]

theorem mask8 (v : Byte) : v &&& 0xFF = v := by
  rw [show (0xFF : Byte) = BitVec.allOnes 8 from rfl, BitVec.and_allOnes]

/-- The test of a row that reads EXT and the class bits. -/
theorem row_class (f : Frame) (c : BitVec 10) :
    (intakeWord f &&& 0x23FF000000 == 1#1 ++ (0#3 ++ c ++ 0#8 ++ 0#8) ++ 0#8) =
      (f.ext && decide (idClass f.id = c)) := by
  have h := intakeWord_class f 0x3FF c 0 0
  rw [mask10] at h
  rw [Bool.eq_iff_iff, beq_iff_eq]
  refine Iff.trans h ?_
  simp

/-- The test of a row that reads EXT, the class bits and data byte 0. -/
theorem row_byte (f : Frame) (c : BitVec 10) (b : Byte) :
    (intakeWord f &&& 0x23FF0000FF == 1#1 ++ (0#3 ++ c ++ 0#8 ++ 0#8) ++ b) =
      (f.ext && decide (idClass f.id = c) && decide (f.data.getD 0 0 = b)) := by
  have h := intakeWord_class f 0x3FF c 0xFF b
  rw [mask10, mask8] at h
  rw [Bool.eq_iff_iff, beq_iff_eq]
  refine Iff.trans h ?_
  simp [and_assoc]

end Sys2Proof
end

