-- ==== Sys2Proof/Laws/State.lean ====
section
/-! SUPPORT. One lemma per field per update of State, each true by rfl: no later proof unfolds a record update. -/

namespace Sys2Proof.Machine

/-! ### `output` (R21): the port log alone. -/

@[simp] theorem output_en (o : PortOut) (s : State) : (output o s).en = s.en := rfl
@[simp] theorem output_ignTxerr (o : PortOut) (s : State) : (output o s).ignTxerr = s.ignTxerr := rfl
@[simp] theorem output_txerr (o : PortOut) (s : State) : (output o s).txerr = s.txerr := rfl
@[simp] theorem output_pv (o : PortOut) (s : State) : (output o s).pv = s.pv := rfl
@[simp] theorem output_txerrIe (o : PortOut) (s : State) : (output o s).txerrIe = s.txerrIe := rfl
@[simp] theorem output_pvIe (o : PortOut) (s : State) : (output o s).pvIe = s.pvIe := rfl
@[simp] theorem output_result (o : PortOut) (s : State) : (output o s).result = s.result := rfl
@[simp] theorem output_argId (o : PortOut) (s : State) : (output o s).argId = s.argId := rfl
@[simp] theorem output_argPgn (o : PortOut) (s : State) : (output o s).argPgn = s.argPgn := rfl
@[simp] theorem output_argPrio (o : PortOut) (s : State) : (output o s).argPrio = s.argPrio := rfl
@[simp] theorem output_argSrc (o : PortOut) (s : State) : (output o s).argSrc = s.argSrc := rfl
@[simp] theorem output_argDest (o : PortOut) (s : State) : (output o s).argDest = s.argDest := rfl
@[simp] theorem output_argDestPresent (o : PortOut) (s : State) : (output o s).argDestPresent = s.argDestPresent := rfl
@[simp] theorem output_argLen (o : PortOut) (s : State) : (output o s).argLen = s.argLen := rfl
@[simp] theorem output_pvCnt (o : PortOut) (s : State) : (output o s).pvCnt = s.pvCnt := rfl
@[simp] theorem output_txerrCnt (o : PortOut) (s : State) : (output o s).txerrCnt = s.txerrCnt := rfl
@[simp] theorem output_dropCnt (o : PortOut) (s : State) : (output o s).dropCnt = s.dropCnt := rfl
@[simp] theorem output_claimed0 (o : PortOut) (s : State) : (output o s).claimed0 = s.claimed0 := rfl
@[simp] theorem output_claimed1 (o : PortOut) (s : State) : (output o s).claimed1 = s.claimed1 := rfl
@[simp] theorem output_claimed2 (o : PortOut) (s : State) : (output o s).claimed2 = s.claimed2 := rfl
@[simp] theorem output_claimed3 (o : PortOut) (s : State) : (output o s).claimed3 = s.claimed3 := rfl
@[simp] theorem output_claimed4 (o : PortOut) (s : State) : (output o s).claimed4 = s.claimed4 := rfl
@[simp] theorem output_claimed5 (o : PortOut) (s : State) : (output o s).claimed5 = s.claimed5 := rfl
@[simp] theorem output_claimed6 (o : PortOut) (s : State) : (output o s).claimed6 = s.claimed6 := rfl
@[simp] theorem output_claimed7 (o : PortOut) (s : State) : (output o s).claimed7 = s.claimed7 := rfl
@[simp] theorem output_txbuf (o : PortOut) (s : State) : (output o s).txbuf = s.txbuf := rfl
@[simp] theorem output_rxs (o : PortOut) (s : State) : (output o s).rxs = s.rxs := rfl
@[simp] theorem output_txs (o : PortOut) (s : State) : (output o s).txs = s.txs := rfl
@[simp] theorem output_bamq (o : PortOut) (s : State) : (output o s).bamq = s.bamq := rfl
@[simp] theorem output_params (o : PortOut) (s : State) : (output o s).params = s.params := rfl
@[simp] theorem output_env (o : PortOut) (s : State) : (output o s).env = { s.env with outs := s.env.outs ++ [o] } := rfl

/-! ### `count(PV)` (R216). -/

@[simp] theorem countPv_en (s : State) : (countPv s).en = s.en := rfl
@[simp] theorem countPv_ignTxerr (s : State) : (countPv s).ignTxerr = s.ignTxerr := rfl
@[simp] theorem countPv_txerr (s : State) : (countPv s).txerr = s.txerr := rfl
@[simp] theorem countPv_pv (s : State) : (countPv s).pv = true := rfl
@[simp] theorem countPv_txerrIe (s : State) : (countPv s).txerrIe = s.txerrIe := rfl
@[simp] theorem countPv_pvIe (s : State) : (countPv s).pvIe = s.pvIe := rfl
@[simp] theorem countPv_result (s : State) : (countPv s).result = s.result := rfl
@[simp] theorem countPv_argId (s : State) : (countPv s).argId = s.argId := rfl
@[simp] theorem countPv_argPgn (s : State) : (countPv s).argPgn = s.argPgn := rfl
@[simp] theorem countPv_argPrio (s : State) : (countPv s).argPrio = s.argPrio := rfl
@[simp] theorem countPv_argSrc (s : State) : (countPv s).argSrc = s.argSrc := rfl
@[simp] theorem countPv_argDest (s : State) : (countPv s).argDest = s.argDest := rfl
@[simp] theorem countPv_argDestPresent (s : State) : (countPv s).argDestPresent = s.argDestPresent := rfl
@[simp] theorem countPv_argLen (s : State) : (countPv s).argLen = s.argLen := rfl
@[simp] theorem countPv_pvCnt (s : State) : (countPv s).pvCnt = s.pvCnt + 1 := rfl
@[simp] theorem countPv_txerrCnt (s : State) : (countPv s).txerrCnt = s.txerrCnt := rfl
@[simp] theorem countPv_dropCnt (s : State) : (countPv s).dropCnt = s.dropCnt := rfl
@[simp] theorem countPv_claimed0 (s : State) : (countPv s).claimed0 = s.claimed0 := rfl
@[simp] theorem countPv_claimed1 (s : State) : (countPv s).claimed1 = s.claimed1 := rfl
@[simp] theorem countPv_claimed2 (s : State) : (countPv s).claimed2 = s.claimed2 := rfl
@[simp] theorem countPv_claimed3 (s : State) : (countPv s).claimed3 = s.claimed3 := rfl
@[simp] theorem countPv_claimed4 (s : State) : (countPv s).claimed4 = s.claimed4 := rfl
@[simp] theorem countPv_claimed5 (s : State) : (countPv s).claimed5 = s.claimed5 := rfl
@[simp] theorem countPv_claimed6 (s : State) : (countPv s).claimed6 = s.claimed6 := rfl
@[simp] theorem countPv_claimed7 (s : State) : (countPv s).claimed7 = s.claimed7 := rfl
@[simp] theorem countPv_txbuf (s : State) : (countPv s).txbuf = s.txbuf := rfl
@[simp] theorem countPv_rxs (s : State) : (countPv s).rxs = s.rxs := rfl
@[simp] theorem countPv_txs (s : State) : (countPv s).txs = s.txs := rfl
@[simp] theorem countPv_bamq (s : State) : (countPv s).bamq = s.bamq := rfl
@[simp] theorem countPv_params (s : State) : (countPv s).params = s.params := rfl
@[simp] theorem countPv_env (s : State) : (countPv s).env = s.env := rfl

/-! ### `count(DROP)` (R216). -/

@[simp] theorem countDrop_en (s : State) : (countDrop s).en = s.en := rfl
@[simp] theorem countDrop_ignTxerr (s : State) : (countDrop s).ignTxerr = s.ignTxerr := rfl
@[simp] theorem countDrop_txerr (s : State) : (countDrop s).txerr = s.txerr := rfl
@[simp] theorem countDrop_pv (s : State) : (countDrop s).pv = s.pv := rfl
@[simp] theorem countDrop_txerrIe (s : State) : (countDrop s).txerrIe = s.txerrIe := rfl
@[simp] theorem countDrop_pvIe (s : State) : (countDrop s).pvIe = s.pvIe := rfl
@[simp] theorem countDrop_result (s : State) : (countDrop s).result = s.result := rfl
@[simp] theorem countDrop_argId (s : State) : (countDrop s).argId = s.argId := rfl
@[simp] theorem countDrop_argPgn (s : State) : (countDrop s).argPgn = s.argPgn := rfl
@[simp] theorem countDrop_argPrio (s : State) : (countDrop s).argPrio = s.argPrio := rfl
@[simp] theorem countDrop_argSrc (s : State) : (countDrop s).argSrc = s.argSrc := rfl
@[simp] theorem countDrop_argDest (s : State) : (countDrop s).argDest = s.argDest := rfl
@[simp] theorem countDrop_argDestPresent (s : State) : (countDrop s).argDestPresent = s.argDestPresent := rfl
@[simp] theorem countDrop_argLen (s : State) : (countDrop s).argLen = s.argLen := rfl
@[simp] theorem countDrop_pvCnt (s : State) : (countDrop s).pvCnt = s.pvCnt := rfl
@[simp] theorem countDrop_txerrCnt (s : State) : (countDrop s).txerrCnt = s.txerrCnt := rfl
@[simp] theorem countDrop_dropCnt (s : State) : (countDrop s).dropCnt = s.dropCnt + 1 := rfl
@[simp] theorem countDrop_claimed0 (s : State) : (countDrop s).claimed0 = s.claimed0 := rfl
@[simp] theorem countDrop_claimed1 (s : State) : (countDrop s).claimed1 = s.claimed1 := rfl
@[simp] theorem countDrop_claimed2 (s : State) : (countDrop s).claimed2 = s.claimed2 := rfl
@[simp] theorem countDrop_claimed3 (s : State) : (countDrop s).claimed3 = s.claimed3 := rfl
@[simp] theorem countDrop_claimed4 (s : State) : (countDrop s).claimed4 = s.claimed4 := rfl
@[simp] theorem countDrop_claimed5 (s : State) : (countDrop s).claimed5 = s.claimed5 := rfl
@[simp] theorem countDrop_claimed6 (s : State) : (countDrop s).claimed6 = s.claimed6 := rfl
@[simp] theorem countDrop_claimed7 (s : State) : (countDrop s).claimed7 = s.claimed7 := rfl
@[simp] theorem countDrop_txbuf (s : State) : (countDrop s).txbuf = s.txbuf := rfl
@[simp] theorem countDrop_rxs (s : State) : (countDrop s).rxs = s.rxs := rfl
@[simp] theorem countDrop_txs (s : State) : (countDrop s).txs = s.txs := rfl
@[simp] theorem countDrop_bamq (s : State) : (countDrop s).bamq = s.bamq := rfl
@[simp] theorem countDrop_params (s : State) : (countDrop s).params = s.params := rfl
@[simp] theorem countDrop_env (s : State) : (countDrop s).env = s.env := rfl

/-! ### `RESULT <- c` (R225). -/

@[simp] theorem setResult_en (c : ResultCode) (s : State) : (setResult c s).en = s.en := rfl
@[simp] theorem setResult_ignTxerr (c : ResultCode) (s : State) : (setResult c s).ignTxerr = s.ignTxerr := rfl
@[simp] theorem setResult_txerr (c : ResultCode) (s : State) : (setResult c s).txerr = s.txerr := rfl
@[simp] theorem setResult_pv (c : ResultCode) (s : State) : (setResult c s).pv = s.pv := rfl
@[simp] theorem setResult_txerrIe (c : ResultCode) (s : State) : (setResult c s).txerrIe = s.txerrIe := rfl
@[simp] theorem setResult_pvIe (c : ResultCode) (s : State) : (setResult c s).pvIe = s.pvIe := rfl
@[simp] theorem setResult_result (c : ResultCode) (s : State) : (setResult c s).result = c := rfl
@[simp] theorem setResult_argId (c : ResultCode) (s : State) : (setResult c s).argId = s.argId := rfl
@[simp] theorem setResult_argPgn (c : ResultCode) (s : State) : (setResult c s).argPgn = s.argPgn := rfl
@[simp] theorem setResult_argPrio (c : ResultCode) (s : State) : (setResult c s).argPrio = s.argPrio := rfl
@[simp] theorem setResult_argSrc (c : ResultCode) (s : State) : (setResult c s).argSrc = s.argSrc := rfl
@[simp] theorem setResult_argDest (c : ResultCode) (s : State) : (setResult c s).argDest = s.argDest := rfl
@[simp] theorem setResult_argDestPresent (c : ResultCode) (s : State) : (setResult c s).argDestPresent = s.argDestPresent := rfl
@[simp] theorem setResult_argLen (c : ResultCode) (s : State) : (setResult c s).argLen = s.argLen := rfl
@[simp] theorem setResult_pvCnt (c : ResultCode) (s : State) : (setResult c s).pvCnt = s.pvCnt := rfl
@[simp] theorem setResult_txerrCnt (c : ResultCode) (s : State) : (setResult c s).txerrCnt = s.txerrCnt := rfl
@[simp] theorem setResult_dropCnt (c : ResultCode) (s : State) : (setResult c s).dropCnt = s.dropCnt := rfl
@[simp] theorem setResult_claimed0 (c : ResultCode) (s : State) : (setResult c s).claimed0 = s.claimed0 := rfl
@[simp] theorem setResult_claimed1 (c : ResultCode) (s : State) : (setResult c s).claimed1 = s.claimed1 := rfl
@[simp] theorem setResult_claimed2 (c : ResultCode) (s : State) : (setResult c s).claimed2 = s.claimed2 := rfl
@[simp] theorem setResult_claimed3 (c : ResultCode) (s : State) : (setResult c s).claimed3 = s.claimed3 := rfl
@[simp] theorem setResult_claimed4 (c : ResultCode) (s : State) : (setResult c s).claimed4 = s.claimed4 := rfl
@[simp] theorem setResult_claimed5 (c : ResultCode) (s : State) : (setResult c s).claimed5 = s.claimed5 := rfl
@[simp] theorem setResult_claimed6 (c : ResultCode) (s : State) : (setResult c s).claimed6 = s.claimed6 := rfl
@[simp] theorem setResult_claimed7 (c : ResultCode) (s : State) : (setResult c s).claimed7 = s.claimed7 := rfl
@[simp] theorem setResult_txbuf (c : ResultCode) (s : State) : (setResult c s).txbuf = s.txbuf := rfl
@[simp] theorem setResult_rxs (c : ResultCode) (s : State) : (setResult c s).rxs = s.rxs := rfl
@[simp] theorem setResult_txs (c : ResultCode) (s : State) : (setResult c s).txs = s.txs := rfl
@[simp] theorem setResult_bamq (c : ResultCode) (s : State) : (setResult c s).bamq = s.bamq := rfl
@[simp] theorem setResult_params (c : ResultCode) (s : State) : (setResult c s).params = s.params := rfl
@[simp] theorem setResult_env (c : ResultCode) (s : State) : (setResult c s).env = s.env := rfl

/-! ### Shutdown (R215). -/

@[simp] theorem shutdown_en (s : State) : (shutdown s).en = s.en := rfl
@[simp] theorem shutdown_ignTxerr (s : State) : (shutdown s).ignTxerr = s.ignTxerr := rfl
@[simp] theorem shutdown_txerr (s : State) : (shutdown s).txerr = s.txerr := rfl
@[simp] theorem shutdown_pv (s : State) : (shutdown s).pv = s.pv := rfl
@[simp] theorem shutdown_txerrIe (s : State) : (shutdown s).txerrIe = s.txerrIe := rfl
@[simp] theorem shutdown_pvIe (s : State) : (shutdown s).pvIe = s.pvIe := rfl
@[simp] theorem shutdown_result (s : State) : (shutdown s).result = s.result := rfl
@[simp] theorem shutdown_argId (s : State) : (shutdown s).argId = s.argId := rfl
@[simp] theorem shutdown_argPgn (s : State) : (shutdown s).argPgn = s.argPgn := rfl
@[simp] theorem shutdown_argPrio (s : State) : (shutdown s).argPrio = s.argPrio := rfl
@[simp] theorem shutdown_argSrc (s : State) : (shutdown s).argSrc = s.argSrc := rfl
@[simp] theorem shutdown_argDest (s : State) : (shutdown s).argDest = s.argDest := rfl
@[simp] theorem shutdown_argDestPresent (s : State) : (shutdown s).argDestPresent = s.argDestPresent := rfl
@[simp] theorem shutdown_argLen (s : State) : (shutdown s).argLen = s.argLen := rfl
@[simp] theorem shutdown_pvCnt (s : State) : (shutdown s).pvCnt = s.pvCnt := rfl
@[simp] theorem shutdown_txerrCnt (s : State) : (shutdown s).txerrCnt = s.txerrCnt := rfl
@[simp] theorem shutdown_dropCnt (s : State) : (shutdown s).dropCnt = s.dropCnt := rfl
@[simp] theorem shutdown_claimed0 (s : State) : (shutdown s).claimed0 = s.claimed0 := rfl
@[simp] theorem shutdown_claimed1 (s : State) : (shutdown s).claimed1 = s.claimed1 := rfl
@[simp] theorem shutdown_claimed2 (s : State) : (shutdown s).claimed2 = s.claimed2 := rfl
@[simp] theorem shutdown_claimed3 (s : State) : (shutdown s).claimed3 = s.claimed3 := rfl
@[simp] theorem shutdown_claimed4 (s : State) : (shutdown s).claimed4 = s.claimed4 := rfl
@[simp] theorem shutdown_claimed5 (s : State) : (shutdown s).claimed5 = s.claimed5 := rfl
@[simp] theorem shutdown_claimed6 (s : State) : (shutdown s).claimed6 = s.claimed6 := rfl
@[simp] theorem shutdown_claimed7 (s : State) : (shutdown s).claimed7 = s.claimed7 := rfl
@[simp] theorem shutdown_txbuf (s : State) : (shutdown s).txbuf = s.txbuf := rfl
@[simp] theorem shutdown_rxs (s : State) : (shutdown s).rxs = [] := rfl
@[simp] theorem shutdown_txs (s : State) : (shutdown s).txs = [] := rfl
@[simp] theorem shutdown_bamq (s : State) : (shutdown s).bamq = [] := rfl
@[simp] theorem shutdown_params (s : State) : (shutdown s).params = s.params := rfl
@[simp] theorem shutdown_env (s : State) : (shutdown s).env = s.env := rfl

/-! ### One emission with its failure policy (R24, R210). -/

@[simp] theorem afterEmit_en (f : Frame) (s : State) : (afterEmit f s).en = s.en := rfl
@[simp] theorem afterEmit_ignTxerr (f : Frame) (s : State) : (afterEmit f s).ignTxerr = s.ignTxerr := rfl
@[simp] theorem afterEmit_txerr (f : Frame) (s : State) : (afterEmit f s).txerr = (s.txerr || nextAborts s) := rfl
@[simp] theorem afterEmit_pv (f : Frame) (s : State) : (afterEmit f s).pv = s.pv := rfl
@[simp] theorem afterEmit_txerrIe (f : Frame) (s : State) : (afterEmit f s).txerrIe = s.txerrIe := rfl
@[simp] theorem afterEmit_pvIe (f : Frame) (s : State) : (afterEmit f s).pvIe = s.pvIe := rfl
@[simp] theorem afterEmit_result (f : Frame) (s : State) : (afterEmit f s).result = s.result := rfl
@[simp] theorem afterEmit_argId (f : Frame) (s : State) : (afterEmit f s).argId = s.argId := rfl
@[simp] theorem afterEmit_argPgn (f : Frame) (s : State) : (afterEmit f s).argPgn = s.argPgn := rfl
@[simp] theorem afterEmit_argPrio (f : Frame) (s : State) : (afterEmit f s).argPrio = s.argPrio := rfl
@[simp] theorem afterEmit_argSrc (f : Frame) (s : State) : (afterEmit f s).argSrc = s.argSrc := rfl
@[simp] theorem afterEmit_argDest (f : Frame) (s : State) : (afterEmit f s).argDest = s.argDest := rfl
@[simp] theorem afterEmit_argDestPresent (f : Frame) (s : State) : (afterEmit f s).argDestPresent = s.argDestPresent := rfl
@[simp] theorem afterEmit_argLen (f : Frame) (s : State) : (afterEmit f s).argLen = s.argLen := rfl
@[simp] theorem afterEmit_pvCnt (f : Frame) (s : State) : (afterEmit f s).pvCnt = s.pvCnt := rfl
@[simp] theorem afterEmit_txerrCnt (f : Frame) (s : State) : (afterEmit f s).txerrCnt = if nextAnswer s.env = .err then s.txerrCnt + 1 else s.txerrCnt := rfl
@[simp] theorem afterEmit_dropCnt (f : Frame) (s : State) : (afterEmit f s).dropCnt = s.dropCnt := rfl
@[simp] theorem afterEmit_claimed0 (f : Frame) (s : State) : (afterEmit f s).claimed0 = s.claimed0 := rfl
@[simp] theorem afterEmit_claimed1 (f : Frame) (s : State) : (afterEmit f s).claimed1 = s.claimed1 := rfl
@[simp] theorem afterEmit_claimed2 (f : Frame) (s : State) : (afterEmit f s).claimed2 = s.claimed2 := rfl
@[simp] theorem afterEmit_claimed3 (f : Frame) (s : State) : (afterEmit f s).claimed3 = s.claimed3 := rfl
@[simp] theorem afterEmit_claimed4 (f : Frame) (s : State) : (afterEmit f s).claimed4 = s.claimed4 := rfl
@[simp] theorem afterEmit_claimed5 (f : Frame) (s : State) : (afterEmit f s).claimed5 = s.claimed5 := rfl
@[simp] theorem afterEmit_claimed6 (f : Frame) (s : State) : (afterEmit f s).claimed6 = s.claimed6 := rfl
@[simp] theorem afterEmit_claimed7 (f : Frame) (s : State) : (afterEmit f s).claimed7 = s.claimed7 := rfl
@[simp] theorem afterEmit_txbuf (f : Frame) (s : State) : (afterEmit f s).txbuf = s.txbuf := rfl
@[simp] theorem afterEmit_rxs (f : Frame) (s : State) : (afterEmit f s).rxs = s.rxs := rfl
@[simp] theorem afterEmit_txs (f : Frame) (s : State) : (afterEmit f s).txs = s.txs := rfl
@[simp] theorem afterEmit_bamq (f : Frame) (s : State) : (afterEmit f s).bamq = s.bamq := rfl
@[simp] theorem afterEmit_params (f : Frame) (s : State) : (afterEmit f s).params = s.params := rfl
@[simp] theorem afterEmit_env (f : Frame) (s : State) : (afterEmit f s).env = emitEnv f s.env := rfl

/-! ### Reset (R245): what it keeps; `resetBlock` itself is the reset state otherwise. -/

@[simp] theorem resetBlock_en (s : State) : (resetBlock s).en = State.reset.en := rfl
@[simp] theorem resetBlock_ignTxerr (s : State) : (resetBlock s).ignTxerr = State.reset.ignTxerr := rfl
@[simp] theorem resetBlock_txerr (s : State) : (resetBlock s).txerr = State.reset.txerr := rfl
@[simp] theorem resetBlock_pv (s : State) : (resetBlock s).pv = State.reset.pv := rfl
@[simp] theorem resetBlock_txerrIe (s : State) : (resetBlock s).txerrIe = State.reset.txerrIe := rfl
@[simp] theorem resetBlock_pvIe (s : State) : (resetBlock s).pvIe = State.reset.pvIe := rfl
@[simp] theorem resetBlock_result (s : State) : (resetBlock s).result = State.reset.result := rfl
@[simp] theorem resetBlock_argId (s : State) : (resetBlock s).argId = State.reset.argId := rfl
@[simp] theorem resetBlock_argPgn (s : State) : (resetBlock s).argPgn = State.reset.argPgn := rfl
@[simp] theorem resetBlock_argPrio (s : State) : (resetBlock s).argPrio = State.reset.argPrio := rfl
@[simp] theorem resetBlock_argSrc (s : State) : (resetBlock s).argSrc = State.reset.argSrc := rfl
@[simp] theorem resetBlock_argDest (s : State) : (resetBlock s).argDest = State.reset.argDest := rfl
@[simp] theorem resetBlock_argDestPresent (s : State) : (resetBlock s).argDestPresent = State.reset.argDestPresent := rfl
@[simp] theorem resetBlock_argLen (s : State) : (resetBlock s).argLen = State.reset.argLen := rfl
@[simp] theorem resetBlock_pvCnt (s : State) : (resetBlock s).pvCnt = State.reset.pvCnt := rfl
@[simp] theorem resetBlock_txerrCnt (s : State) : (resetBlock s).txerrCnt = State.reset.txerrCnt := rfl
@[simp] theorem resetBlock_dropCnt (s : State) : (resetBlock s).dropCnt = State.reset.dropCnt := rfl
@[simp] theorem resetBlock_claimed0 (s : State) : (resetBlock s).claimed0 = State.reset.claimed0 := rfl
@[simp] theorem resetBlock_claimed1 (s : State) : (resetBlock s).claimed1 = State.reset.claimed1 := rfl
@[simp] theorem resetBlock_claimed2 (s : State) : (resetBlock s).claimed2 = State.reset.claimed2 := rfl
@[simp] theorem resetBlock_claimed3 (s : State) : (resetBlock s).claimed3 = State.reset.claimed3 := rfl
@[simp] theorem resetBlock_claimed4 (s : State) : (resetBlock s).claimed4 = State.reset.claimed4 := rfl
@[simp] theorem resetBlock_claimed5 (s : State) : (resetBlock s).claimed5 = State.reset.claimed5 := rfl
@[simp] theorem resetBlock_claimed6 (s : State) : (resetBlock s).claimed6 = State.reset.claimed6 := rfl
@[simp] theorem resetBlock_claimed7 (s : State) : (resetBlock s).claimed7 = State.reset.claimed7 := rfl
@[simp] theorem resetBlock_txbuf (s : State) : (resetBlock s).txbuf = State.reset.txbuf := rfl
@[simp] theorem resetBlock_rxs (s : State) : (resetBlock s).rxs = State.reset.rxs := rfl
@[simp] theorem resetBlock_txs (s : State) : (resetBlock s).txs = State.reset.txs := rfl
@[simp] theorem resetBlock_bamq (s : State) : (resetBlock s).bamq = State.reset.bamq := rfl
@[simp] theorem resetBlock_params (s : State) : (resetBlock s).params = s.params := rfl
@[simp] theorem resetBlock_env (s : State) : (resetBlock s).env = s.env := rfl

/-! ### An input placed first (log entry 12). -/

@[simp] theorem placeInput_en (x : Input) (s : State) : (placeInput x s).en = s.en := rfl
@[simp] theorem placeInput_ignTxerr (x : Input) (s : State) : (placeInput x s).ignTxerr = s.ignTxerr := rfl
@[simp] theorem placeInput_txerr (x : Input) (s : State) : (placeInput x s).txerr = s.txerr := rfl
@[simp] theorem placeInput_pv (x : Input) (s : State) : (placeInput x s).pv = s.pv := rfl
@[simp] theorem placeInput_txerrIe (x : Input) (s : State) : (placeInput x s).txerrIe = s.txerrIe := rfl
@[simp] theorem placeInput_pvIe (x : Input) (s : State) : (placeInput x s).pvIe = s.pvIe := rfl
@[simp] theorem placeInput_result (x : Input) (s : State) : (placeInput x s).result = s.result := rfl
@[simp] theorem placeInput_argId (x : Input) (s : State) : (placeInput x s).argId = s.argId := rfl
@[simp] theorem placeInput_argPgn (x : Input) (s : State) : (placeInput x s).argPgn = s.argPgn := rfl
@[simp] theorem placeInput_argPrio (x : Input) (s : State) : (placeInput x s).argPrio = s.argPrio := rfl
@[simp] theorem placeInput_argSrc (x : Input) (s : State) : (placeInput x s).argSrc = s.argSrc := rfl
@[simp] theorem placeInput_argDest (x : Input) (s : State) : (placeInput x s).argDest = s.argDest := rfl
@[simp] theorem placeInput_argDestPresent (x : Input) (s : State) : (placeInput x s).argDestPresent = s.argDestPresent := rfl
@[simp] theorem placeInput_argLen (x : Input) (s : State) : (placeInput x s).argLen = s.argLen := rfl
@[simp] theorem placeInput_pvCnt (x : Input) (s : State) : (placeInput x s).pvCnt = s.pvCnt := rfl
@[simp] theorem placeInput_txerrCnt (x : Input) (s : State) : (placeInput x s).txerrCnt = s.txerrCnt := rfl
@[simp] theorem placeInput_dropCnt (x : Input) (s : State) : (placeInput x s).dropCnt = s.dropCnt := rfl
@[simp] theorem placeInput_claimed0 (x : Input) (s : State) : (placeInput x s).claimed0 = s.claimed0 := rfl
@[simp] theorem placeInput_claimed1 (x : Input) (s : State) : (placeInput x s).claimed1 = s.claimed1 := rfl
@[simp] theorem placeInput_claimed2 (x : Input) (s : State) : (placeInput x s).claimed2 = s.claimed2 := rfl
@[simp] theorem placeInput_claimed3 (x : Input) (s : State) : (placeInput x s).claimed3 = s.claimed3 := rfl
@[simp] theorem placeInput_claimed4 (x : Input) (s : State) : (placeInput x s).claimed4 = s.claimed4 := rfl
@[simp] theorem placeInput_claimed5 (x : Input) (s : State) : (placeInput x s).claimed5 = s.claimed5 := rfl
@[simp] theorem placeInput_claimed6 (x : Input) (s : State) : (placeInput x s).claimed6 = s.claimed6 := rfl
@[simp] theorem placeInput_claimed7 (x : Input) (s : State) : (placeInput x s).claimed7 = s.claimed7 := rfl
@[simp] theorem placeInput_txbuf (x : Input) (s : State) : (placeInput x s).txbuf = s.txbuf := rfl
@[simp] theorem placeInput_rxs (x : Input) (s : State) : (placeInput x s).rxs = s.rxs := rfl
@[simp] theorem placeInput_txs (x : Input) (s : State) : (placeInput x s).txs = s.txs := rfl
@[simp] theorem placeInput_bamq (x : Input) (s : State) : (placeInput x s).bamq = s.bamq := rfl
@[simp] theorem placeInput_params (x : Input) (s : State) : (placeInput x s).params = s.params := rfl
@[simp] theorem placeInput_env (x : Input) (s : State) : (placeInput x s).env = { s.env with inputs := x :: s.env.inputs } := rfl

/-! ### The other port operations are `output` -/

@[simp] theorem withOut_eq (o : PortOut) (s : State) : withOut o s = output o s := rfl
@[simp] theorem deliver_eq (p : PduRec) (s : State) : deliver p s = output (.pdu p) s := rfl
@[simp] theorem respond_eq (r : HostRsp) (s : State) : respond r s = output (.host r) s := rfl
@[simp] theorem respondWrite_eq (s : State) : respondWrite s = output okayOut s := rfl
@[simp] theorem respondRead_eq (w : Word) (s : State) :
    respondRead w s = output (.host { resp := .okay, rdata := some w }) s := rfl
@[simp] theorem respondError_read (s : State) :
    respondError .read s = output (.host { resp := .error, rdata := some 0 }) s := rfl
@[simp] theorem respondError_write (s : State) :
    respondError .write s = output (.host { resp := .error, rdata := none }) s := rfl
@[simp] theorem outputFunc_eq (v : FuncVal) (s : State) : outputFunc v s = output (.func v) s := rfl

end Sys2Proof.Machine
end

