-- ==== Sys2Proof/Laws/Table.lean ====
section
/-! SUPPORT. What find, insert and erase do to a finite map, and that each keeps the canonical form. -/

namespace Sys2Proof.Machine

variable {α : Type}

/-! ### Keys -/

/-- Two addresses are read back from their key. -/
theorem pairKey_inj {a b c d : Byte} : pairKey a b = pairKey c d ↔ a = c ∧ b = d := by
  have hb := b.isLt
  have hd := d.isLt
  simp only [pairKey, ← BitVec.toNat_inj]
  omega

theorem pairKey_lt (a b : Byte) : pairKey a b < 65536 := by
  have ha := a.isLt
  have hb := b.isLt
  simp only [pairKey]
  omega

theorem pairKey_mod (a b : Byte) : pairKey a b % 256 = b.toNat := by
  have hb := b.isLt
  simp only [pairKey]
  omega

/-! ### Find -/

@[simp] theorem tblFind_nil (a : Nat) : tblFind ([] : List (Nat × α)) a = none := rfl

theorem tblHas_eq_true {t : List (Nat × α)} {a : Nat} : tblHas t a = true ↔ ∃ v, tblFind t a = some v := by
  simp [tblHas, Option.isSome_iff_exists]

theorem tblHas_eq_false {t : List (Nat × α)} {a : Nat} : tblHas t a = false ↔ tblFind t a = none := by
  simp [tblHas]

/-- What is found stands in the list under its key. -/
theorem mem_of_tblFind {t : List (Nat × α)} {a : Nat} {v : α} (h : tblFind t a = some v) : (a, v) ∈ t := by
  induction t with
  | nil => cases h
  | cons p t ih =>
    obtain ⟨k, w⟩ := p
    simp only [tblFind] at h
    split at h
    · next hk => subst hk; cases h; exact List.mem_cons_self
    · exact List.mem_cons_of_mem _ (ih h)

theorem tblFind_none_of_forall_ne {t : List (Nat × α)} {a : Nat} (h : ∀ p ∈ t, p.1 ≠ a) : tblFind t a = none := by
  induction t with
  | nil => rfl
  | cons p t ih =>
    obtain ⟨k, w⟩ := p
    have hk : k ≠ a := h (k, w) List.mem_cons_self
    simp only [tblFind, if_neg hk]
    exact ih fun q hq => h q (List.mem_cons_of_mem _ hq)

/-! ### Insert -/

/-- `T[k] <- e`: the key reads as written, every other key as before; whatever the list's form. -/
theorem tblFind_insert (t : List (Nat × α)) (a : Nat) (v : α) (b : Nat) :
    tblFind (tblInsert t a v) b = if b = a then some v else tblFind t b := by
  induction t with
  | nil => simp only [tblInsert, tblFind, eq_comm]
  | cons p t ih =>
    obtain ⟨k, w⟩ := p
    simp only [tblInsert]
    split
    · simp only [tblFind]
      by_cases hb : b = a
      · simp [hb]
      · simp [hb, Ne.symm hb]
    · split
      · next hk =>
        subst hk
        by_cases hb : b = k
        · simp [tblFind, hb]
        · simp [tblFind, hb, Ne.symm hb]
      · next hk =>
        simp only [tblFind, ih]
        by_cases hb : k = b
        · subst hb; simp [hk]
        · simp [hb]

/-- Every entry after an insertion is the new one or one that stood there. -/
theorem mem_tblInsert {t : List (Nat × α)} {a : Nat} {v : α} {p : Nat × α} (h : p ∈ tblInsert t a v) :
    p = (a, v) ∨ p ∈ t := by
  induction t with
  | nil => simpa [tblInsert] using h
  | cons q t ih =>
    obtain ⟨k, w⟩ := q
    simp only [tblInsert] at h
    split at h
    · simpa using h
    · split at h
      · simp only [List.mem_cons] at h ⊢; tauto
      · simp only [List.mem_cons] at h ⊢
        rcases h with h | h
        · exact .inr (.inl h)
        · have := ih h; tauto

theorem TblWf.insert {t : List (Nat × α)} (h : TblWf t) (a : Nat) (v : α) : TblWf (tblInsert t a v) := by
  induction t with
  | nil => simp [TblWf, tblInsert]
  | cons q t ih =>
    obtain ⟨k, w⟩ := q
    have ht := List.pairwise_cons.mp h
    simp only [tblInsert]
    split
    · next hlt =>
      refine List.pairwise_cons.mpr ⟨fun p hp => ?_, h⟩
      rcases List.mem_cons.mp hp with rfl | hp
      · exact hlt
      · exact Nat.lt_trans hlt (ht.1 p hp)
    · split
      · next hk => subst hk; exact List.pairwise_cons.mpr ⟨fun p hp => ht.1 p hp, ht.2⟩
      · refine List.pairwise_cons.mpr ⟨fun p hp => ?_, ih ht.2⟩
        rcases mem_tblInsert hp with rfl | hp
        · show k < a; omega
        · exact ht.1 p hp

/-- A key that is in the map is replaced in place. -/
theorem length_tblInsert_of_mem {t : List (Nat × α)} {a : Nat} {v : α} (hw : TblWf t)
    (h : tblHas t a = true) : (tblInsert t a v).length = t.length := by
  induction t with
  | nil => simp [tblHas] at h
  | cons q t ih =>
    obtain ⟨k, w⟩ := q
    have ht := List.pairwise_cons.mp hw
    simp only [tblInsert]
    split
    · next hlt =>
      obtain ⟨u, hu⟩ := tblHas_eq_true.mp h
      rcases List.mem_cons.mp (mem_of_tblFind hu) with he | hm
      · cases he; omega
      · have := ht.1 _ hm; simp only at this; omega
    · split
      · rfl
      · next hk =>
        simp only [List.length_cons, Nat.add_right_cancel_iff]
        exact ih ht.2 (by simpa [tblHas, tblFind, hk] using h)

theorem length_tblInsert_le (t : List (Nat × α)) (a : Nat) (v : α) : (tblInsert t a v).length ≤ t.length + 1 := by
  induction t with
  | nil => simp [tblInsert]
  | cons q t ih =>
    obtain ⟨k, w⟩ := q
    simp only [tblInsert]
    split
    · simp
    · split
      · simp
      · simpa using ih

/-! ### Erase -/

@[simp] theorem tblErase_nil (a : Nat) : tblErase ([] : List (Nat × α)) a = [] := rfl

/-- `delete T[k]`: the key is gone, every other key reads as before. -/
theorem tblFind_erase (t : List (Nat × α)) (a b : Nat) :
    tblFind (tblErase t a) b = if b = a then none else tblFind t b := by
  induction t with
  | nil => simp
  | cons q t ih =>
    obtain ⟨k, w⟩ := q
    by_cases hk : k = a
    · subst hk
      simp only [tblErase, ne_eq, not_true, decide_false, Bool.false_eq_true, not_false_eq_true,
        List.filter_cons_of_neg] at ih ⊢
      rw [ih]
      by_cases hb : b = k
      · simp [hb]
      · simp [hb, tblFind, Ne.symm hb]
    · simp only [tblErase, ne_eq, hk, not_false_eq_true, decide_true, List.filter_cons_of_pos, tblFind] at ih ⊢
      rw [ih]
      by_cases hb : k = b
      · subst hb; simp [hk]
      · simp [hb]

theorem mem_tblErase {t : List (Nat × α)} {a : Nat} {p : Nat × α} : p ∈ tblErase t a ↔ p ∈ t ∧ p.1 ≠ a := by
  simp [tblErase]

theorem TblWf.erase {t : List (Nat × α)} (h : TblWf t) (a : Nat) : TblWf (tblErase t a) := h.filter _

theorem length_tblErase_le (t : List (Nat × α)) (a : Nat) : (tblErase t a).length ≤ t.length :=
  List.length_filter_le _ _

/-- What is found by its key is what stands in a canonical list. -/
theorem tblFind_of_mem {t : List (Nat × α)} (hw : TblWf t) {a : Nat} {v : α} (h : (a, v) ∈ t) :
    tblFind t a = some v := by
  induction t with
  | nil => cases h
  | cons q t ih =>
    obtain ⟨k, w⟩ := q
    have ht := List.pairwise_cons.mp hw
    rcases List.mem_cons.mp h with he | hm
    · cases he; simp [tblFind]
    · have hlt := ht.1 _ hm
      have hk : k ≠ a := by simp only at hlt; omega
      simpa [tblFind, hk] using ih ht.2 hm

/-- Insert then erase is erase, and insert twice is the last: what the sessions' life needs. -/
theorem tblErase_insert {t : List (Nat × α)} (a : Nat) (v : α) : tblErase (tblInsert t a v) a = tblErase t a := by
  induction t with
  | nil => simp [tblInsert, tblErase]
  | cons q t ih =>
    obtain ⟨k, w⟩ := q
    simp only [tblInsert]
    split
    · simp [tblErase]
    · split
      · next hk => subst hk; simp [tblErase]
      · next hk => simp only [tblErase, List.filter_cons] at ih ⊢; rw [ih]

end Sys2Proof.Machine
end

