-- ==== Sys2Proof/Laws/Ops.lean ====
section
/-! SUPPORT. One lemma per shared operation of Machine/Ops.lean, saying all it does; that every memory operation keeps
the canonical form of TXBUF; and the frame of an emission window. -/

namespace Sys2Proof.Machine

/-! ### Emission -/

/-- `emit` and its failure policy, as one equation (R24, R210). -/
theorem attempt_eq (f : Frame) (s : State) :
    attempt f s = (if nextAborts s then .abort else .cont, afterEmit f s) := by
  unfold attempt emit
  cases h : nextAnswer s.env with
  | ok => simp [nextAborts, afterEmit, emitEnv, h]
  | err => cases hi : s.ignTxerr <;> simp [txfail, nextAborts, afterEmit, emitEnv, h, hi]

@[simp] theorem attempt_snd (f : Frame) (s : State) : (attempt f s).2 = afterEmit f s := by rw [attempt_eq]

/-- Where the policy stops the attempt, the answer was ERR and IGN_TXERR = 0, and conversely (R210). -/
theorem nextAnswer_cons {e : Env} {a : TxAns} {as : List TxAns} (h : e.answers = a :: as) : nextAnswer e = a := by
  simp only [nextAnswer, h]

/-- With no answer supplied the draw is the free value (log entry 2). -/
theorem nextAnswer_nil {e : Env} (h : e.answers = []) : nextAnswer e = Config.freeAnswer e.draws := by
  simp only [nextAnswer, h]

@[simp] theorem drawAt_zero (e : Env) : drawAt e 0 = nextAnswer e := rfl

/-- The draws after an emission are those of before, one on. -/
@[simp] theorem drawAt_emitEnv (f : Frame) (e : Env) (i : Nat) : drawAt (emitEnv f e) i = drawAt e (i + 1) := by
  simp only [drawAt, nextAnswer, emitEnv, List.drop_tail, Nat.add_assoc, Nat.add_comm 1 i]

theorem nextAborts_eq_true {s : State} :
    nextAborts s = true ↔ nextAnswer s.env = .err ∧ s.ignTxerr = false := by
  simp [nextAborts]

/-- A window ends with its first aborting frame (R170). -/
theorem sendWindow_cons (f : Frame) (fs : List Frame) (s : State) :
    sendWindow (f :: fs) s = if nextAborts s then afterEmit f s else sendWindow fs (afterEmit f s) := by
  rw [sendWindow, attempt_eq]
  cases nextAborts s <;> rfl

@[simp] theorem sendWindow_nil (s : State) : sendWindow [] s = s := rfl

/-- What a window changes: TXERR_CNT, STATUS.TXERR and the ports (R168). -/
theorem sendWindow_frame (fs : List Frame) (s : State) :
    sendWindow fs s = { s with
      txerrCnt := (sendWindow fs s).txerrCnt
      txerr := (sendWindow fs s).txerr
      env := { s.env with
        answers := (sendWindow fs s).env.answers
        draws := (sendWindow fs s).env.draws
        outs := (sendWindow fs s).env.outs } } := by
  induction fs generalizing s with
  | nil => rfl
  | cons f fs ih =>
    rw [sendWindow_cons]
    split
    · rfl
    · rw [ih (afterEmit f s)]; rfl

/-- The records a window puts on CAN_TX are a prefix of its frames, in order. -/
theorem sendWindow_outs (fs : List Frame) (s : State) :
    ∃ rs : List TxRec, (sendWindow fs s).env.outs = s.env.outs ++ rs.map PortOut.tx ∧
      rs.map TxRec.frame <+: fs := by
  induction fs generalizing s with
  | nil => exact ⟨[], by simp, by simp⟩
  | cons f fs ih =>
    rw [sendWindow_cons]
    split
    · exact ⟨[⟨f, nextAnswer s.env⟩], by simp [emitEnv], by simp⟩
    · obtain ⟨rs, h1, h2⟩ := ih (afterEmit f s)
      refine ⟨⟨f, nextAnswer s.env⟩ :: rs, by simp [h1, emitEnv], ?_⟩
      simpa using h2

/-! ### Steps of other agents -/

theorem whenEnabled_on {s : State} (h : s.en = true) (f : State → State) : whenEnabled s f = .next (f s) := by
  simp [whenEnabled, h]

theorem whenEnabled_off {s : State} (h : s.en = false) (f : State → State) : whenEnabled s f = .next s := by
  simp [whenEnabled, h]

/-- A guarded step always answers a next state. -/
theorem whenEnabled_next {s t : State} {f : State → State} :
    whenEnabled s f = .next t ↔ t = if s.en then f s else s := by
  cases h : s.en <;> simp [whenEnabled, h, eq_comm]

/-! ### Fetch -/

theorem fetch_cons {s : State} {x : Input} {xs : List Input} (h : s.env.inputs = x :: xs) :
    fetch s = some (x, { s with env := { s.env with inputs := xs } }) := by
  simp [fetch, h]

theorem fetch_nil {s : State} (h : s.env.inputs = []) : fetch s = none := by
  simp [fetch, h]

@[simp] theorem fetch_placeInput (x : Input) (s : State) : fetch (placeInput x s) = some (x, s) := rfl

/-! ### TXBUF -/

/-- The offsets of TXBUF (R63). -/
theorem txbufIndex_eq_some {off i : Nat} : txbufIndex off = some i ↔ off = 0x800 + i ∧ i < 1785 := by
  simp only [txbufIndex]
  split
  · simp only [Option.some.injEq]; omega
  · simp only [reduceCtorEq, false_iff]; omega

theorem txbufIndex_add {i : Nat} (h : i < 1785) : txbufIndex (0x800 + i) = some i :=
  txbufIndex_eq_some.mpr ⟨rfl, h⟩

/-- One lane of a host write: it changes at most the byte of its offset. -/
theorem txbufByte_writeLane (off : Nat) (b : Byte) (s : State) (i : Nat) :
    txbufByte (writeLane off b s) i = if off = 0x800 + i ∧ i < 1785 then some b else txbufByte s i := by
  simp only [writeLane, txbufByte]
  cases h : txbufIndex off with
  | none =>
    have hn : ¬ (off = 0x800 + i ∧ i < 1785) := fun hc => by
      rw [txbufIndex_eq_some.mpr hc] at h; cases h
    simp [hn]
  | some j =>
    obtain ⟨h1, h2⟩ := txbufIndex_eq_some.mp h
    simp only [tblFind_insert]
    by_cases hi : i = j
    · subst hi; simp [h1, h2]
    · have hn : ¬ (off = 0x800 + i ∧ i < 1785) := by omega
      simp [hi, hn]

/-- A host write of lanes changes TXBUF alone. -/
theorem writeLanes_frame (off : Nat) (w : Word) (k n : Nat) (s : State) :
    writeLanes off w k n s = { s with txbuf := (writeLanes off w k n s).txbuf } := by
  induction n generalizing k s with
  | zero => rfl
  | succ n ih =>
    have hl : writeLane (off + k) (lane w k) s =
        { s with txbuf := (writeLane (off + k) (lane w k) s).txbuf } := by
      simp only [writeLane]; split <;> rfl
    rw [writeLanes, ih]
    rw [hl]

/-- A host write of lanes, byte by byte (R63). -/
theorem txbufByte_writeLanes (off : Nat) (w : Word) (k n : Nat) (s : State) (i : Nat) :
    txbufByte (writeLanes off w k n s) i =
      if off + k ≤ 0x800 + i ∧ 0x800 + i < off + k + n ∧ i < 1785 then some (lane w (0x800 + i - off))
      else txbufByte s i := by
  induction n generalizing k s with
  | zero =>
    have : ¬ (off + k ≤ 0x800 + i ∧ 0x800 + i < off + k + 0 ∧ i < 1785) := by omega
    rw [if_neg this]
    rfl
  | succ n ih =>
    rw [writeLanes, ih, txbufByte_writeLane]
    by_cases h0 : off + k = 0x800 + i ∧ i < 1785
    · have h1 : ¬ (off + (k + 1) ≤ 0x800 + i ∧ 0x800 + i < off + (k + 1) + n ∧ i < 1785) := by omega
      have h2 : off + k ≤ 0x800 + i ∧ 0x800 + i < off + k + (n + 1) ∧ i < 1785 := by omega
      have h3 : 0x800 + i - off = k := by omega
      rw [if_neg h1, if_pos h0, if_pos h2, h3]
    · rw [if_neg h0]
      by_cases h1 : off + (k + 1) ≤ 0x800 + i ∧ 0x800 + i < off + (k + 1) + n ∧ i < 1785
      · rw [if_pos h1, if_pos (by omega)]
      · rw [if_neg h1, if_neg (by omega)]

/-- `TXBUF[i..i+n)` where every byte of it is written (R156). -/
theorem readTxbuf_ok {s : State} {i : Nat} {p : List Byte}
    (h : ∀ j < p.length, txbufByte s (i + j) = p[j]?) : readTxbuf s i p.length = .ok p := by
  induction p generalizing i with
  | nil => rfl
  | cons b p ih =>
    have h0 : txbufByte s i = some b := by simpa using h 0 (by simp)
    have hr : readTxbuf s (i + 1) p.length = .ok p := by
      refine ih fun j hj => ?_
      have := h (j + 1) (by simpa using hj)
      simpa [Nat.add_assoc, Nat.add_comm 1 j] using this
    simp [readTxbuf, h0, hr]

/-- The fault's index is the lowest unwritten byte (R156). -/
theorem readTxbuf_error {s : State} {i n j : Nat} :
    readTxbuf s i n = .error j ↔
      i ≤ j ∧ j < i + n ∧ txbufByte s j = none ∧ ∀ k, i ≤ k → k < j → (txbufByte s k).isSome := by
  induction n generalizing i with
  | zero => simp only [readTxbuf, reduceCtorEq, false_iff]; omega
  | succ n ih =>
    simp only [readTxbuf]
    cases h0 : txbufByte s i with
    | none =>
      simp only [Except.error.injEq]
      constructor
      · rintro rfl; exact ⟨le_rfl, by omega, h0, fun k h1 h2 => absurd h2 (by omega)⟩
      · rintro ⟨h1, -, -, h4⟩
        by_contra hne
        have := h4 i le_rfl (by omega)
        simp [h0] at this
    | some b =>
      refine Iff.trans (b := readTxbuf s (i + 1) n = .error j) ?_ ?_
      · cases readTxbuf s (i + 1) n <;> simp
      rw [ih]
      constructor
      · rintro ⟨h1, h2, h3, h4⟩
        refine ⟨by omega, by omega, h3, fun k hk hkj => ?_⟩
        by_cases hki : k = i
        · simp [hki, h0]
        · exact h4 k (by omega) hkj
      · rintro ⟨h1, h2, h3, h4⟩
        have hij : i ≠ j := by rintro rfl; rw [h0] at h3; cases h3
        exact ⟨by omega, by omega, h3, fun k hk hkj => h4 k (by omega) hkj⟩

/-- The bytes SEND uses are those of TXBUF (R156). -/
theorem readTxbuf_length {s : State} {i n : Nat} {p : List Byte} (h : readTxbuf s i n = .ok p) : p.length = n := by
  induction n generalizing i p with
  | zero => cases h; rfl
  | succ n ih =>
    simp only [readTxbuf] at h
    split at h
    · cases h
    · split at h
      · cases h
      · next hr => cases h; simp [ih hr]

/-- One lane of a host read (R63). -/
theorem readLane_eq (s : State) (off : Nat) (h : 0x800 ≤ off) :
    readLane s off =
      if off - 0x800 < 1785 then
        match txbufByte s (off - 0x800) with
        | some b => .ok b
        | none => .error (off - 0x800)
      else .ok 0 := by
  unfold readLane
  by_cases hi : off - 0x800 < 1785
  · have : txbufIndex off = some (off - 0x800) := txbufIndex_eq_some.mpr ⟨by omega, hi⟩
    cases hb : txbufByte s (off - 0x800) <;> simp [hi, this, hb]
  · have : txbufIndex off = none := by
      simp only [txbufIndex]; rw [if_neg (by omega)]
    rw [if_neg hi]
    simp only [this]

/-- A host read whose lanes all answer gives their bytes (R63). -/
theorem readLanes_ok {s : State} {off : Nat} {p : List Byte}
    (h : ∀ k (hk : k < p.length), readLane s (off + k) = .ok p[k]) : readLanes s off p.length = .ok p := by
  induction p generalizing off with
  | nil => rfl
  | cons b p ih =>
    have h0 : readLane s off = .ok b := h 0 (by simp)
    have hr : readLanes s (off + 1) p.length = .ok p := by
      refine ih fun k hk => ?_
      have := h (k + 1) (by simpa using hk)
      simpa [Nat.add_assoc, Nat.add_comm 1 k] using this
    simp [readLanes, h0, hr]

/-- A host read stops at its lowest unwritten lane (R63). -/
theorem readLanes_error {s : State} {off n k i : Nat} (hk : k < n) (h : readLane s (off + k) = .error i)
    (hb : ∀ j < k, ∃ b, readLane s (off + j) = .ok b) : readLanes s off n = .error i := by
  induction n generalizing off k with
  | zero => omega
  | succ n ih =>
    cases k with
    | zero => simp only [Nat.add_zero] at h; simp [readLanes, h]
    | succ k =>
      obtain ⟨b, h0⟩ := hb 0 (by omega)
      simp only [Nat.add_zero] at h0
      have hr : readLanes s (off + 1) n = .error i := by
        refine ih (k := k) (by omega) (by rw [← h]; congr 1; omega) fun j hj => ?_
        obtain ⟨c, hc⟩ := hb (j + 1) (by omega)
        exact ⟨c, by rw [← hc]; congr 1; omega⟩
      simp [readLanes, h0, hr]

/-- A host read's error is an unwritten byte of TXBUF (R63, R231). -/
theorem readLanes_error_unwritten {s : State} {off n i : Nat} (h : readLanes s off n = .error i) :
    i < 1785 ∧ txbufByte s i = none := by
  induction n generalizing off with
  | zero => simp [readLanes] at h
  | succ n ih =>
    simp only [readLanes] at h
    split at h
    · next j hj =>
      simp only [Except.error.injEq] at h
      subst h
      simp only [readLane] at hj
      split at hj
      · cases hj
      · next i hi =>
        split at hj
        · cases hj
        · next hb =>
          simp only [Except.error.injEq] at hj
          subst hj
          exact ⟨(txbufIndex_eq_some.mp hi).2, hb⟩
    · split at h
      · next j hj => simp only [Except.error.injEq] at h; subst h; exact ih hj
      · cases h

/-! ### The canonical form of TXBUF -/

theorem Memory.wf_insert {m : List Host.Cell} (h : Memory.wf m) {i : Nat} (hi : i < maxPayload) (b : Byte) :
    Memory.wf (tblInsert m i b) := by
  refine ⟨h.1.insert i b, fun c hc => ?_⟩
  rcases mem_tblInsert hc with rfl | hc
  · exact hi
  · exact h.2 c hc

/-- A lane write keeps the canonical form. -/
theorem writeLane_wf {s : State} (h : Memory.wf s.txbuf) (off : Nat) (b : Byte) :
    Memory.wf (writeLane off b s).txbuf := by
  simp only [writeLane]
  split
  · next hi => exact Memory.wf_insert h (txbufIndex_eq_some.mp hi).2 b
  · exact h

/-- A host write of lanes keeps the canonical form; the other memory operations, reset and the reads, write nothing or
empty it. -/
theorem writeLanes_wf {s : State} (h : Memory.wf s.txbuf) (off : Nat) (w : Word) (k n : Nat) :
    Memory.wf (writeLanes off w k n s).txbuf := by
  induction n generalizing k s with
  | zero => exact h
  | succ n ih => exact ih (writeLane_wf h _ _) _

theorem reset_wf : Memory.wf State.reset.txbuf := ⟨List.Pairwise.nil, by simp [State.reset]⟩

theorem resetBlock_wf (s : State) : Memory.wf (resetBlock s).txbuf := reset_wf

end Sys2Proof.Machine
end

