-- ==== Sys2Proof/Laws/Frames.lean ====
section
/-! SUPPORT. What each handler may change, as one equation per handler: every field that is not named in the update is
the old one. -/

namespace Sys2Proof.Machine

/-- The state after one emission, as an update of the old one. -/
theorem afterEmit_frame (f : Frame) (s : State) :
    afterEmit f s = { s with
      txerrCnt := (afterEmit f s).txerrCnt
      txerr := (afterEmit f s).txerr
      env := { s.env with
        answers := (afterEmit f s).env.answers
        draws := (afterEmit f s).env.draws
        outs := (afterEmit f s).env.outs } } := rfl

/-! ### Commands -/

theorem buildId_frame (s : State) :
    buildId s = { s with result := (buildId s).result, argId := (buildId s).argId } := by
  simp only [buildId]; split <;> rfl

theorem setDest_frame (s : State) :
    setDest s = { s with result := (setDest s).result, argId := (setDest s).argId } := by
  simp only [setDest]; split <;> rfl

/-- What the single-frame path changes (R157). -/
theorem sendShort_eq (p : List Byte) (s : State) :
    sendShort p s = { afterEmit (frame s.argId p) s with result := if nextAborts s then .txErr else .ok } := by
  simp only [sendShort, attempt_eq]
  cases nextAborts s <;> rfl

theorem dropDuplicate_frame (k : Nat) (s : State) :
    dropDuplicate k s = { s with
      pvCnt := (dropDuplicate k s).pvCnt
      pv := (dropDuplicate k s).pv
      txs := (dropDuplicate k s).txs } := by
  simp only [dropDuplicate]; split <;> rfl

/-- What SEND changes once its checks are passed: nothing else than RESULT, the violation and failure accounts, TXS,
BAMQ and the ports (R157 to R165). -/
theorem sendPayload_frame (p : List Byte) (s : State) :
    sendPayload p s = { s with
      txerr := (sendPayload p s).txerr
      pv := (sendPayload p s).pv
      result := (sendPayload p s).result
      pvCnt := (sendPayload p s).pvCnt
      txerrCnt := (sendPayload p s).txerrCnt
      txs := (sendPayload p s).txs
      bamq := (sendPayload p s).bamq
      env := { s.env with
        answers := (sendPayload p s).env.answers
        draws := (sendPayload p s).env.draws
        outs := (sendPayload p s).env.outs } } := by
  have hr : ∀ s1 : State, dropDuplicate (pairKey (idSa s.argId) (idPs s.argId)) s = s1 →
      s1 = { s with pvCnt := s1.pvCnt, pv := s1.pv, txs := s1.txs } := by
    rintro s1 rfl; exact dropDuplicate_frame _ _
  simp only [sendPayload]
  split
  · rw [sendShort_eq]; rfl
  · split
    · simp only [sendRts]
      generalize hs1 : dropDuplicate (pairKey (idSa s.argId) (idPs s.argId)) s = s1
      have hf := hr s1 hs1
      split
      · rw [hf]; rfl
      · simp only [attempt_eq]
        cases nextAborts s1
        · rw [hf]; rfl
        · rw [hf]; rfl
    · simp only [sendBam]
      split
      · rfl
      · simp only [attempt_eq]
        cases nextAborts s <;> rfl

/-! ### Received frames and the tick -/

theorem handleCts_frame (dst src count start : Byte) (s : State) :
    handleCts dst src count start s = { s with
      txerr := (handleCts dst src count start s).txerr
      pv := (handleCts dst src count start s).pv
      pvCnt := (handleCts dst src count start s).pvCnt
      txerrCnt := (handleCts dst src count start s).txerrCnt
      env := { s.env with
        answers := (handleCts dst src count start s).env.answers
        draws := (handleCts dst src count start s).env.draws
        outs := (handleCts dst src count start s).env.outs } } := by
  simp only [handleCts]
  split
  · rfl
  · split
    · rfl
    · next e _ _ =>
      generalize ((ctsWindow count start e.nseg).map fun k => dtFrame src dst k e.segs) = fs
      generalize ht : sendWindow fs s = t
      have hf := sendWindow_frame fs s
      rw [ht] at hf
      rw [hf]

theorem handleEomack_frame (dst src : Byte) (s : State) :
    handleEomack dst src s = { s with
      pv := (handleEomack dst src s).pv
      pvCnt := (handleEomack dst src s).pvCnt
      txs := (handleEomack dst src s).txs } := by
  simp only [handleEomack]; split <;> rfl

theorem dropReplaced_frame (k : Nat) (s : State) :
    dropReplaced k s = { s with
      pvCnt := (dropReplaced k s).pvCnt
      pv := (dropReplaced k s).pv
      rxs := (dropReplaced k s).rxs } := by
  simp only [dropReplaced]; split <;> rfl

theorem announce_frame (kind : SessKind) (prio : Prio) (dst src : Byte) (tlen : BitVec 16) (tseg : Byte) (pgn : Pgn)
    (s : State) :
    (announce kind prio dst src tlen tseg pgn s).2 = { s with
      pvCnt := (announce kind prio dst src tlen tseg pgn s).2.pvCnt
      pv := (announce kind prio dst src tlen tseg pgn s).2.pv
      dropCnt := (announce kind prio dst src tlen tseg pgn s).2.dropCnt
      rxs := (announce kind prio dst src tlen tseg pgn s).2.rxs } := by
  simp only [announce]
  generalize hs1 : dropReplaced (pairKey src dst) s = s1
  have hf : s1 = { s with pvCnt := s1.pvCnt, pv := s1.pv, rxs := s1.rxs } := by
    rw [← hs1]; exact dropReplaced_frame _ _
  split
  · rw [hf]; rfl
  · split
    · rw [hf]; rfl
    · rw [hf]

theorem handleBam_frame (prio : Prio) (dst src : Byte) (tlen : BitVec 16) (tseg : Byte) (pgn : Pgn) (s : State) :
    handleBam prio dst src tlen tseg pgn s = { s with
      pvCnt := (handleBam prio dst src tlen tseg pgn s).pvCnt
      pv := (handleBam prio dst src tlen tseg pgn s).pv
      dropCnt := (handleBam prio dst src tlen tseg pgn s).dropCnt
      rxs := (handleBam prio dst src tlen tseg pgn s).rxs } := announce_frame _ _ _ _ _ _ _ _

/-- An RTS is the announcement, and one emission where an entry was created and its destination is claimed. -/
theorem handleRts_eq (prio : Prio) (dst src : Byte) (tlen : BitVec 16) (tseg : Byte) (pgn : Pgn) (s : State) :
    handleRts prio dst src tlen tseg pgn s =
      if (announce .rts prio dst src tlen tseg pgn s).1 && isClaimed s dst then
        afterEmit (ctsFrame src dst tseg pgn) (announce .rts prio dst src tlen tseg pgn s).2
      else (announce .rts prio dst src tlen tseg pgn s).2 := by
  have hf := announce_frame .rts prio dst src tlen tseg pgn s
  simp only [handleRts]
  generalize announce .rts prio dst src tlen tseg pgn s = r at *
  obtain ⟨b, s1⟩ := r
  simp only at hf
  have hc : isClaimed s1 dst = isClaimed s dst := by rw [hf]; rfl
  cases b
  · rfl
  · simp only [hc, attempt_snd, Bool.true_and]

theorem handleRts_frame (prio : Prio) (dst src : Byte) (tlen : BitVec 16) (tseg : Byte) (pgn : Pgn) (s : State) :
    handleRts prio dst src tlen tseg pgn s = { s with
      txerr := (handleRts prio dst src tlen tseg pgn s).txerr
      txerrCnt := (handleRts prio dst src tlen tseg pgn s).txerrCnt
      pvCnt := (handleRts prio dst src tlen tseg pgn s).pvCnt
      pv := (handleRts prio dst src tlen tseg pgn s).pv
      dropCnt := (handleRts prio dst src tlen tseg pgn s).dropCnt
      rxs := (handleRts prio dst src tlen tseg pgn s).rxs
      env := { s.env with
        answers := (handleRts prio dst src tlen tseg pgn s).env.answers
        draws := (handleRts prio dst src tlen tseg pgn s).env.draws
        outs := (handleRts prio dst src tlen tseg pgn s).env.outs } } := by
  rw [handleRts_eq]
  have hf := announce_frame .rts prio dst src tlen tseg pgn s
  generalize announce .rts prio dst src tlen tseg pgn s = r at *
  obtain ⟨b, s1⟩ := r
  simp only at hf ⊢
  split
  · rw [hf]; rfl
  · rw [hf]

/-- The completion of a transfer: its entry goes, and the EOM-ACK and the PDU leave (R191 to R195). -/
theorem completeSession_eq (e : RxEntry) (src dst : Byte) (buf : List Byte) (s : State) :
    completeSession e src dst buf s =
      let s0 := { s with rxs := tblErase s.rxs (pairKey src dst) }
      let pdu := PortOut.pdu (sessionPdu e src dst (buf.take e.tlen.toNat))
      let ack := eomackFrame src dst e.tlen e.tseg e.pgn
      if e.kind = .rts ∧ isClaimed s dst = true then
        if nextAborts s then afterEmit ack s0 else output pdu (afterEmit ack s0)
      else output pdu s0 := by
  simp only [completeSession, attempt_eq]
  split
  · cases nextAborts s <;> rfl
  · rfl

theorem handleDt_frame (dst src : Byte) (data : List Byte) (s : State) :
    handleDt dst src data s = { s with
      txerr := (handleDt dst src data s).txerr
      txerrCnt := (handleDt dst src data s).txerrCnt
      dropCnt := (handleDt dst src data s).dropCnt
      rxs := (handleDt dst src data s).rxs
      env := { s.env with
        answers := (handleDt dst src data s).env.answers
        draws := (handleDt dst src data s).env.draws
        outs := (handleDt dst src data s).env.outs } } := by
  simp only [handleDt]
  split
  · rfl
  · split
    · rfl
    · split
      · rw [completeSession_eq]
        simp only []
        split
        · split <;> rfl
        · rfl
      · rfl

theorem tick_frame (s : State) :
    tick s = { s with
      txerr := (tick s).txerr
      txerrCnt := (tick s).txerrCnt
      bamq := (tick s).bamq
      env := { s.env with
        answers := (tick s).env.answers
        draws := (tick s).env.draws
        outs := (tick s).env.outs } } := by
  simp only [tick, attempt_snd]
  split <;> rfl

end Sys2Proof.Machine
end

