-- ==== Sys2Proof/Laws/Operands.lean ====
section
/-! SUPPORT. The fields of what the codec builds, and the lengths of segmentation. -/

namespace Sys2Proof.Machine

/-! ### Fields of a concatenation -/

theorem append_toNat {m n : Nat} (a : BitVec m) (b : BitVec n) : (a ++ b).toNat = a.toNat * 2 ^ n + b.toNat := by
  rw [BitVec.toNat_append, Nat.shiftLeft_eq, Nat.mul_comm, ← Nat.two_pow_add_eq_or_of_lt b.isLt]

theorem pgn_eq_fields (v : Pgn) : pgnPack (pgnR v) (pgnDp v) (pgnPf v) (pgnPs v) = v := by
  refine BitVec.eq_of_getLsbD_eq fun i hi => ?_
  simp only [pgnPack, pgnR, pgnDp, pgnPf, pgnPs, BitVec.getLsbD_append, BitVec.getLsbD_extractLsb',
    BitVec.getLsbD_ofBool]
  interval_cases i <;> simp

theorem ofBool_eq_iff {a b : Bool} : BitVec.ofBool a = BitVec.ofBool b ↔ a = b := by
  cases a <;> cases b <;> decide

theorem pgnPack_inj {r r' dp dp' : Bool} {pf pf' ps ps' : Byte} :
    pgnPack r dp pf ps = pgnPack r' dp' pf' ps' ↔ r = r' ∧ dp = dp' ∧ pf = pf' ∧ ps = ps' := by
  refine (append_eq_iff (a := BitVec.ofBool r ++ BitVec.ofBool dp ++ pf)).trans ?_
  rw [append_eq_iff, append_eq_iff, ofBool_eq_iff, ofBool_eq_iff, and_assoc, and_assoc]

/-- R117 undoes R116. -/
theorem pgnPack_fields (r dp : Bool) (pf ps : Byte) :
    pgnR (pgnPack r dp pf ps) = r ∧ pgnDp (pgnPack r dp pf ps) = dp ∧
      pgnPf (pgnPack r dp pf ps) = pf ∧ pgnPs (pgnPack r dp pf ps) = ps :=
  pgnPack_inj.mp (pgn_eq_fields _)

/-- Replacing the PS byte keeps the rest (R119, R130). -/
theorem pgnWithPs_fields (v : Pgn) (d : Byte) :
    pgnR (pgnWithPs v d) = pgnR v ∧ pgnDp (pgnWithPs v d) = pgnDp v ∧
      pgnPf (pgnWithPs v d) = pgnPf v ∧ pgnPs (pgnWithPs v d) = d := by
  have h : pgnWithPs v d = pgnPack (pgnR v) (pgnDp v) (pgnPf v) d := by
    refine BitVec.eq_of_getLsbD_eq fun i hi => ?_
    simp only [pgnWithPs, pgnPack, pgnR, pgnDp, pgnPf, BitVec.getLsbD_append, BitVec.getLsbD_extractLsb',
      BitVec.getLsbD_ofBool]
    interval_cases i <;> simp
  rw [h]
  exact pgnPack_fields _ _ _ _

theorem isPdu1_pgnWithPs (v : Pgn) (d : Byte) : isPdu1 (pgnWithPs v d) = isPdu1 v := by
  obtain ⟨h1, h2, h3, -⟩ := pgnWithPs_fields v d
  simp only [isPdu1, h1, h2, h3]

theorem isPdu1_pgnNumber (v : Pgn) : isPdu1 (pgnNumber v) = isPdu1 v := by
  simp only [pgnNumber]
  split
  · exact isPdu1_pgnWithPs v 0
  · rfl

/-- R121 undoes R120. -/
theorem idPack_fields (p : Prio) (v : Pgn) (sa : Byte) :
    idPrio (idPack p v sa) = p ∧ idPgn (idPack p v sa) = v ∧ idSa (idPack p v sa) = sa ∧
      idPs (idPack p v sa) = pgnPs v := by
  refine ⟨?_, ?_, ?_, ?_⟩
  all_goals
    refine BitVec.eq_of_getLsbD_eq fun i hi => ?_
    simp only [idPrio, idPgn, idSa, idPs, pgnPs, idPack, BitVec.getLsbD_append, BitVec.getLsbD_extractLsb']
    interval_cases i <;> simp

/-- The fields of a TP identifier (R94). -/
theorem tpId_fields (base : Pgn) (d s : Byte) :
    idPrio (tpId base d s) = 7 ∧ idClass (tpId base d s) = base.extractLsb' 8 10 ∧
      idPs (tpId base d s) = d ∧ idSa (tpId base d s) = s := by
  have h : tpId base d s = rxId 7 (base.extractLsb' 8 10) d s := by
    refine BitVec.eq_of_getLsbD_eq fun i hi => ?_
    simp only [tpId, idPack, pgnWithPs, rxId, BitVec.getLsbD_append, tpPrio]
    interval_cases i <;> rfl
  rw [h]
  exact rxId_fields _ _ _ _

/-! ### Operand bytes of the wire -/

/-- R95: the three PGN bytes, emitted and read back. -/
theorem pgnOf_pgn3 (pgn : Pgn) :
    pgnOf (pgn.extractLsb' 0 8) (pgn.extractLsb' 8 8) ((pgn.extractLsb' 16 2).setWidth 8) = pgn := by
  refine BitVec.eq_of_getLsbD_eq fun i hi => ?_
  simp only [pgnOf, BitVec.getLsbD_append, BitVec.getLsbD_extractLsb', BitVec.getLsbD_setWidth]
  interval_cases i <;> simp

/-- R96: the two length bytes, emitted and read back. -/
theorem lenOf_bytes (len : BitVec 16) : lenOf (len.extractLsb' 0 8) (len.extractLsb' 8 8) = len := by
  refine BitVec.eq_of_getLsbD_eq fun i hi => ?_
  simp only [lenOf, BitVec.getLsbD_append, BitVec.getLsbD_extractLsb']
  interval_cases i <;> simp

theorem length_cmData (type : Byte) (len : BitVec 16) (n : Byte) (pgn : Pgn) : (cmData type len n pgn).length = 8 := rfl

theorem length_ctsData (count start : Byte) (pgn : Pgn) : (ctsData count start pgn).length = 8 := rfl

/-! ### Segmentation -/

theorem nseg_eq (len : Nat) : nseg len = (len + 6) / 7 := rfl

theorem length_tpPad (p : List Byte) : (tpPad p).length = 7 * nseg p.length := by
  simp only [tpPad, segSize, List.length_append, List.length_replicate, nseg_eq]
  omega

/-- The first `k` chunks of a sequence, joined, are its first bytes (R136, R139). -/
theorem flatten_chunks (bytes : List Byte) (n k : Nat) :
    ((List.range k).map fun i => (bytes.drop (n * i)).take n).flatten = bytes.take (n * k) := by
  induction k with
  | zero => simp
  | succ k ih => simp [List.range_succ, ih, Nat.mul_add, List.take_add]

/-- A segment of a padded payload has 7 bytes (R139). -/
theorem length_segment_tpPad {p : List Byte} {i : Nat} (h : i < nseg p.length) :
    (Machine.segment (i + 1) (tpPad p)).length = 7 := by
  simp only [Machine.segment, segSize, List.length_take, List.length_drop, length_tpPad]
  omega

end Sys2Proof.Machine
end

