-- ==== Sys2Proof/Laws/PerInstr.lean ====
section
/-! SUPPORT. A law of every instruction as syntax: what its encoders put on a port is a record the port may carry
(10_state.md R22). -/

open Sys2Proof Sys2Proof.Machine

/-- The input of a well-formed instruction, and its emitted frame, are records a port carries. -/
def Sys2Proof.Laws.EncodesOnPort.Statement (i : Instr) : Prop :=
  i.wellFormed = true →
    (∀ x, encode i = some x → x.wellFormed = true) ∧ (∀ f, encodeEmitted i = some f → f.ext = true ∧ f.OnPort)

/-- An instruction without an encoder. -/
theorem Sys2Proof.Laws.EncodesOnPort.unencoded {i : Instr} (h : encode i = none) (h' : encodeEmitted i = none) :
    Sys2Proof.Laws.EncodesOnPort.Statement i := by
  refine fun _ => ⟨fun x hx => ?_, fun f hf => ?_⟩
  · rw [h] at hx; cases hx
  · rw [h'] at hf; cases hf

/-- An instruction whose input is no frame. -/
theorem Sys2Proof.Laws.EncodesOnPort.input {i : Instr} {x : Input} (h : encode i = some x)
    (hx : x.wellFormed = true) (h' : encodeEmitted i = none) :
    Sys2Proof.Laws.EncodesOnPort.Statement i := by
  refine fun _ => ⟨fun y hy => ?_, fun f hf => ?_⟩
  · rw [h] at hy; cases hy; exact hx
  · rw [h'] at hf; cases hf

/-- An instruction whose input is a frame. -/
theorem Sys2Proof.Laws.EncodesOnPort.received {i : Instr} {f : Frame} (h : encode i = some (.rx f))
    (hf : i.wellFormed = true → f.OnPort) (h' : encodeEmitted i = none) :
    Sys2Proof.Laws.EncodesOnPort.Statement i := by
  refine fun hw => ⟨fun y hy => ?_, fun g hg => ?_⟩
  · rw [h] at hy; cases hy; exact decide_eq_true (hf hw)
  · rw [h'] at hg; cases hg

/-- An instruction that is an emitted frame. -/
theorem Sys2Proof.Laws.EncodesOnPort.emitted {i : Instr} {f : Frame} (h : encode i = none)
    (h' : encodeEmitted i = some f) (he : f.ext = true) (hl : i.wellFormed = true → f.data.length ≤ 8) :
    Sys2Proof.Laws.EncodesOnPort.Statement i := by
  refine fun hw => ⟨fun y hy => ?_, fun g hg => ?_⟩
  · rw [h] at hy; cases hy
  · rw [h'] at hg; cases hg
    exact ⟨he, hl hw, fun hx => absurd he (by simp [hx])⟩

theorem Sys2Proof.Laws.EncodesOnPort.nop :
    Sys2Proof.Laws.EncodesOnPort.Statement .nop :=
  Sys2Proof.Laws.EncodesOnPort.input rfl rfl rfl

theorem Sys2Proof.Laws.EncodesOnPort.buildId :
    Sys2Proof.Laws.EncodesOnPort.Statement .buildId :=
  Sys2Proof.Laws.EncodesOnPort.input rfl rfl rfl

theorem Sys2Proof.Laws.EncodesOnPort.setDest :
    Sys2Proof.Laws.EncodesOnPort.Statement .setDest :=
  Sys2Proof.Laws.EncodesOnPort.input rfl rfl rfl

theorem Sys2Proof.Laws.EncodesOnPort.send :
    Sys2Proof.Laws.EncodesOnPort.Statement .send :=
  Sys2Proof.Laws.EncodesOnPort.input rfl rfl rfl

theorem Sys2Proof.Laws.EncodesOnPort.reservedCmd4 :
    Sys2Proof.Laws.EncodesOnPort.Statement .reservedCmd4 :=
  Sys2Proof.Laws.EncodesOnPort.input rfl rfl rfl

theorem Sys2Proof.Laws.EncodesOnPort.reservedCmd5 :
    Sys2Proof.Laws.EncodesOnPort.Statement .reservedCmd5 :=
  Sys2Proof.Laws.EncodesOnPort.input rfl rfl rfl

theorem Sys2Proof.Laws.EncodesOnPort.reservedCmd6 :
    Sys2Proof.Laws.EncodesOnPort.Statement .reservedCmd6 :=
  Sys2Proof.Laws.EncodesOnPort.input rfl rfl rfl

theorem Sys2Proof.Laws.EncodesOnPort.reservedCmd7 :
    Sys2Proof.Laws.EncodesOnPort.Statement .reservedCmd7 :=
  Sys2Proof.Laws.EncodesOnPort.input rfl rfl rfl

theorem Sys2Proof.Laws.EncodesOnPort.reservedCmd8 :
    Sys2Proof.Laws.EncodesOnPort.Statement .reservedCmd8 :=
  Sys2Proof.Laws.EncodesOnPort.input rfl rfl rfl

theorem Sys2Proof.Laws.EncodesOnPort.reservedCmd9 :
    Sys2Proof.Laws.EncodesOnPort.Statement .reservedCmd9 :=
  Sys2Proof.Laws.EncodesOnPort.input rfl rfl rfl

theorem Sys2Proof.Laws.EncodesOnPort.reservedCmdA :
    Sys2Proof.Laws.EncodesOnPort.Statement .reservedCmdA :=
  Sys2Proof.Laws.EncodesOnPort.input rfl rfl rfl

theorem Sys2Proof.Laws.EncodesOnPort.reservedCmdB :
    Sys2Proof.Laws.EncodesOnPort.Statement .reservedCmdB :=
  Sys2Proof.Laws.EncodesOnPort.input rfl rfl rfl

theorem Sys2Proof.Laws.EncodesOnPort.reservedCmdC :
    Sys2Proof.Laws.EncodesOnPort.Statement .reservedCmdC :=
  Sys2Proof.Laws.EncodesOnPort.input rfl rfl rfl

theorem Sys2Proof.Laws.EncodesOnPort.reservedCmdD :
    Sys2Proof.Laws.EncodesOnPort.Statement .reservedCmdD :=
  Sys2Proof.Laws.EncodesOnPort.input rfl rfl rfl

theorem Sys2Proof.Laws.EncodesOnPort.reservedCmdE :
    Sys2Proof.Laws.EncodesOnPort.Statement .reservedCmdE :=
  Sys2Proof.Laws.EncodesOnPort.input rfl rfl rfl

theorem Sys2Proof.Laws.EncodesOnPort.reservedCmdF :
    Sys2Proof.Laws.EncodesOnPort.Statement .reservedCmdF :=
  Sys2Proof.Laws.EncodesOnPort.input rfl rfl rfl

theorem Sys2Proof.Laws.EncodesOnPort.rxStd (id : BitVec 11) (data : List Byte) :
    Sys2Proof.Laws.EncodesOnPort.Statement (.rxStd id data) :=
  Sys2Proof.Laws.EncodesOnPort.received rfl
    (fun h => ⟨of_decide_eq_true h, fun _ => by
      have := id.isLt
      simp only [BitVec.toNat_setWidth]
      omega⟩) rfl

theorem Sys2Proof.Laws.EncodesOnPort.rxCmBadlen (prio : Prio) (dst src : Byte) (data : List Byte) :
    Sys2Proof.Laws.EncodesOnPort.Statement (.rxCmBadlen prio dst src data) :=
  Sys2Proof.Laws.EncodesOnPort.received rfl (fun h => ⟨Nat.le_of_lt (of_decide_eq_true h), nofun⟩) rfl

theorem Sys2Proof.Laws.EncodesOnPort.rxRts (prio : Prio) (dst src : Byte) (tlen : BitVec 16) (tseg : Byte) (pgn : Pgn) :
    Sys2Proof.Laws.EncodesOnPort.Statement (.rxRts prio dst src tlen tseg pgn) :=
  Sys2Proof.Laws.EncodesOnPort.received rfl (fun _ => ⟨Nat.le_refl 8, nofun⟩) rfl

theorem Sys2Proof.Laws.EncodesOnPort.rxCts (prio : Prio) (dst src count start : Byte) :
    Sys2Proof.Laws.EncodesOnPort.Statement (.rxCts prio dst src count start) :=
  Sys2Proof.Laws.EncodesOnPort.received rfl (fun _ => ⟨Nat.le_refl 8, nofun⟩) rfl

theorem Sys2Proof.Laws.EncodesOnPort.rxEomack (prio : Prio) (dst src : Byte) :
    Sys2Proof.Laws.EncodesOnPort.Statement (.rxEomack prio dst src) :=
  Sys2Proof.Laws.EncodesOnPort.received rfl (fun _ => ⟨Nat.le_refl 8, nofun⟩) rfl

theorem Sys2Proof.Laws.EncodesOnPort.rxBam (prio : Prio) (dst src : Byte) (tlen : BitVec 16) (tseg : Byte) (pgn : Pgn) :
    Sys2Proof.Laws.EncodesOnPort.Statement (.rxBam prio dst src tlen tseg pgn) :=
  Sys2Proof.Laws.EncodesOnPort.received rfl (fun _ => ⟨Nat.le_refl 8, nofun⟩) rfl

theorem Sys2Proof.Laws.EncodesOnPort.rxAbort (prio : Prio) (dst src : Byte) :
    Sys2Proof.Laws.EncodesOnPort.Statement (.rxAbort prio dst src) :=
  Sys2Proof.Laws.EncodesOnPort.received rfl (fun _ => ⟨Nat.le_refl 8, nofun⟩) rfl

theorem Sys2Proof.Laws.EncodesOnPort.rxCmOther (prio : Prio) (dst src ctl : Byte) :
    Sys2Proof.Laws.EncodesOnPort.Statement (.rxCmOther prio dst src ctl) :=
  Sys2Proof.Laws.EncodesOnPort.received rfl (fun _ => ⟨Nat.le_refl 8, nofun⟩) rfl

theorem Sys2Proof.Laws.EncodesOnPort.rxDt (prio : Prio) (dst src : Byte) (data : List Byte) :
    Sys2Proof.Laws.EncodesOnPort.Statement (.rxDt prio dst src data) :=
  Sys2Proof.Laws.EncodesOnPort.received rfl (fun h => ⟨of_decide_eq_true h, nofun⟩) rfl

theorem Sys2Proof.Laws.EncodesOnPort.rxPass (id : CanId) (data : List Byte) :
    Sys2Proof.Laws.EncodesOnPort.Statement (.rxPass id data) :=
  Sys2Proof.Laws.EncodesOnPort.received rfl (fun h => ⟨(of_decide_eq_true h).1, nofun⟩) rfl

theorem Sys2Proof.Laws.EncodesOnPort.paceTick :
    Sys2Proof.Laws.EncodesOnPort.Statement .paceTick :=
  Sys2Proof.Laws.EncodesOnPort.input rfl rfl rfl

theorem Sys2Proof.Laws.EncodesOnPort.reset :
    Sys2Proof.Laws.EncodesOnPort.Statement .reset :=
  Sys2Proof.Laws.EncodesOnPort.input rfl rfl rfl

theorem Sys2Proof.Laws.EncodesOnPort.wCtrl (wdata : Word) :
    Sys2Proof.Laws.EncodesOnPort.Statement (.wCtrl wdata) :=
  Sys2Proof.Laws.EncodesOnPort.input rfl rfl rfl

theorem Sys2Proof.Laws.EncodesOnPort.wStatus (wdata : Word) :
    Sys2Proof.Laws.EncodesOnPort.Statement (.wStatus wdata) :=
  Sys2Proof.Laws.EncodesOnPort.input rfl rfl rfl

theorem Sys2Proof.Laws.EncodesOnPort.wIe (wdata : Word) :
    Sys2Proof.Laws.EncodesOnPort.Statement (.wIe wdata) :=
  Sys2Proof.Laws.EncodesOnPort.input rfl rfl rfl

theorem Sys2Proof.Laws.EncodesOnPort.wCmd (wdata : Word) :
    Sys2Proof.Laws.EncodesOnPort.Statement (.wCmd wdata) :=
  Sys2Proof.Laws.EncodesOnPort.input rfl rfl rfl

theorem Sys2Proof.Laws.EncodesOnPort.wArgId (wdata : Word) :
    Sys2Proof.Laws.EncodesOnPort.Statement (.wArgId wdata) :=
  Sys2Proof.Laws.EncodesOnPort.input rfl rfl rfl

theorem Sys2Proof.Laws.EncodesOnPort.wArgPgn (wdata : Word) :
    Sys2Proof.Laws.EncodesOnPort.Statement (.wArgPgn wdata) :=
  Sys2Proof.Laws.EncodesOnPort.input rfl rfl rfl

theorem Sys2Proof.Laws.EncodesOnPort.wArgAddr (wdata : Word) :
    Sys2Proof.Laws.EncodesOnPort.Statement (.wArgAddr wdata) :=
  Sys2Proof.Laws.EncodesOnPort.input rfl rfl rfl

theorem Sys2Proof.Laws.EncodesOnPort.wArgLen (wdata : Word) :
    Sys2Proof.Laws.EncodesOnPort.Statement (.wArgLen wdata) :=
  Sys2Proof.Laws.EncodesOnPort.input rfl rfl rfl

theorem Sys2Proof.Laws.EncodesOnPort.wPvCnt (wdata : Word) :
    Sys2Proof.Laws.EncodesOnPort.Statement (.wPvCnt wdata) :=
  Sys2Proof.Laws.EncodesOnPort.input rfl rfl rfl

theorem Sys2Proof.Laws.EncodesOnPort.wTxerrCnt (wdata : Word) :
    Sys2Proof.Laws.EncodesOnPort.Statement (.wTxerrCnt wdata) :=
  Sys2Proof.Laws.EncodesOnPort.input rfl rfl rfl

theorem Sys2Proof.Laws.EncodesOnPort.wDropCnt (wdata : Word) :
    Sys2Proof.Laws.EncodesOnPort.Statement (.wDropCnt wdata) :=
  Sys2Proof.Laws.EncodesOnPort.input rfl rfl rfl

theorem Sys2Proof.Laws.EncodesOnPort.wClaimed0 (wdata : Word) :
    Sys2Proof.Laws.EncodesOnPort.Statement (.wClaimed0 wdata) :=
  Sys2Proof.Laws.EncodesOnPort.input rfl rfl rfl

theorem Sys2Proof.Laws.EncodesOnPort.wClaimed1 (wdata : Word) :
    Sys2Proof.Laws.EncodesOnPort.Statement (.wClaimed1 wdata) :=
  Sys2Proof.Laws.EncodesOnPort.input rfl rfl rfl

theorem Sys2Proof.Laws.EncodesOnPort.wClaimed2 (wdata : Word) :
    Sys2Proof.Laws.EncodesOnPort.Statement (.wClaimed2 wdata) :=
  Sys2Proof.Laws.EncodesOnPort.input rfl rfl rfl

theorem Sys2Proof.Laws.EncodesOnPort.wClaimed3 (wdata : Word) :
    Sys2Proof.Laws.EncodesOnPort.Statement (.wClaimed3 wdata) :=
  Sys2Proof.Laws.EncodesOnPort.input rfl rfl rfl

theorem Sys2Proof.Laws.EncodesOnPort.wClaimed4 (wdata : Word) :
    Sys2Proof.Laws.EncodesOnPort.Statement (.wClaimed4 wdata) :=
  Sys2Proof.Laws.EncodesOnPort.input rfl rfl rfl

theorem Sys2Proof.Laws.EncodesOnPort.wClaimed5 (wdata : Word) :
    Sys2Proof.Laws.EncodesOnPort.Statement (.wClaimed5 wdata) :=
  Sys2Proof.Laws.EncodesOnPort.input rfl rfl rfl

theorem Sys2Proof.Laws.EncodesOnPort.wClaimed6 (wdata : Word) :
    Sys2Proof.Laws.EncodesOnPort.Statement (.wClaimed6 wdata) :=
  Sys2Proof.Laws.EncodesOnPort.input rfl rfl rfl

theorem Sys2Proof.Laws.EncodesOnPort.wClaimed7 (wdata : Word) :
    Sys2Proof.Laws.EncodesOnPort.Statement (.wClaimed7 wdata) :=
  Sys2Proof.Laws.EncodesOnPort.input rfl rfl rfl

theorem Sys2Proof.Laws.EncodesOnPort.wTxbuf (off : Offset) (size : Size) (wdata : Word) :
    Sys2Proof.Laws.EncodesOnPort.Statement (.wTxbuf off size wdata) :=
  Sys2Proof.Laws.EncodesOnPort.input rfl rfl rfl

theorem Sys2Proof.Laws.EncodesOnPort.wRegOther (off : Offset) (wdata : Word) :
    Sys2Proof.Laws.EncodesOnPort.Statement (.wRegOther off wdata) :=
  Sys2Proof.Laws.EncodesOnPort.input rfl rfl rfl

theorem Sys2Proof.Laws.EncodesOnPort.rReg (off : Offset) :
    Sys2Proof.Laws.EncodesOnPort.Statement (.rReg off) :=
  Sys2Proof.Laws.EncodesOnPort.input rfl rfl rfl

theorem Sys2Proof.Laws.EncodesOnPort.rTxbuf (off : Offset) (size : Size) :
    Sys2Proof.Laws.EncodesOnPort.Statement (.rTxbuf off size) :=
  Sys2Proof.Laws.EncodesOnPort.input rfl rfl rfl

theorem Sys2Proof.Laws.EncodesOnPort.hostIllegal (dir : Dir) (off : Offset) (size : Size) (wdata : Word) :
    Sys2Proof.Laws.EncodesOnPort.Statement (.hostIllegal dir off size wdata) :=
  Sys2Proof.Laws.EncodesOnPort.input rfl rfl rfl

theorem Sys2Proof.Laws.EncodesOnPort.txShort (id : CanId) (data : List Byte) :
    Sys2Proof.Laws.EncodesOnPort.Statement (.txShort id data) :=
  Sys2Proof.Laws.EncodesOnPort.emitted rfl rfl rfl fun h => of_decide_eq_true h

theorem Sys2Proof.Laws.EncodesOnPort.txRts (dst src : Byte) (len : BitVec 16) (nseg : Byte) (pgn : Pgn) :
    Sys2Proof.Laws.EncodesOnPort.Statement (.txRts dst src len nseg pgn) :=
  Sys2Proof.Laws.EncodesOnPort.emitted rfl rfl rfl fun _ => Nat.le_refl 8

theorem Sys2Proof.Laws.EncodesOnPort.txBam (src : Byte) (len : BitVec 16) (nseg : Byte) (pgn : Pgn) :
    Sys2Proof.Laws.EncodesOnPort.Statement (.txBam src len nseg pgn) :=
  Sys2Proof.Laws.EncodesOnPort.emitted rfl rfl rfl fun _ => Nat.le_refl 8

theorem Sys2Proof.Laws.EncodesOnPort.txDtRts (dst src seq : Byte) (seg : List Byte) :
    Sys2Proof.Laws.EncodesOnPort.Statement (.txDtRts dst src seq seg) :=
  Sys2Proof.Laws.EncodesOnPort.emitted rfl rfl rfl fun h => by
    have hs := (of_decide_eq_true h).2.2
    simp only [frame, List.length_cons, hs]
    omega

theorem Sys2Proof.Laws.EncodesOnPort.txDtBam (src seq : Byte) (seg : List Byte) :
    Sys2Proof.Laws.EncodesOnPort.Statement (.txDtBam src seq seg) :=
  Sys2Proof.Laws.EncodesOnPort.emitted rfl rfl rfl fun h => by
    have hs := (of_decide_eq_true h).2
    simp only [frame, List.length_cons, hs]
    omega

theorem Sys2Proof.Laws.EncodesOnPort.txCts (dst src tseg : Byte) (pgn : Pgn) :
    Sys2Proof.Laws.EncodesOnPort.Statement (.txCts dst src tseg pgn) :=
  Sys2Proof.Laws.EncodesOnPort.emitted rfl rfl rfl fun _ => Nat.le_refl 8

theorem Sys2Proof.Laws.EncodesOnPort.txEomack (dst src : Byte) (tlen : BitVec 16) (tseg : Byte) (pgn : Pgn) :
    Sys2Proof.Laws.EncodesOnPort.Statement (.txEomack dst src tlen tseg pgn) :=
  Sys2Proof.Laws.EncodesOnPort.emitted rfl rfl rfl fun _ => Nat.le_refl 8

theorem Sys2Proof.Laws.EncodesOnPort.pgnPack (r dp : Bool) (pf ps : Byte) :
    Sys2Proof.Laws.EncodesOnPort.Statement (.pgnPack r dp pf ps) :=
  Sys2Proof.Laws.EncodesOnPort.unencoded rfl rfl

theorem Sys2Proof.Laws.EncodesOnPort.pgnFields (v : Pgn) :
    Sys2Proof.Laws.EncodesOnPort.Statement (.pgnFields v) :=
  Sys2Proof.Laws.EncodesOnPort.unencoded rfl rfl

theorem Sys2Proof.Laws.EncodesOnPort.isPdu1 (v : Pgn) :
    Sys2Proof.Laws.EncodesOnPort.Statement (.isPdu1 v) :=
  Sys2Proof.Laws.EncodesOnPort.unencoded rfl rfl

theorem Sys2Proof.Laws.EncodesOnPort.pgnNumber (v : Pgn) :
    Sys2Proof.Laws.EncodesOnPort.Statement (.pgnNumber v) :=
  Sys2Proof.Laws.EncodesOnPort.unencoded rfl rfl

theorem Sys2Proof.Laws.EncodesOnPort.idPack (prio : Prio) (v : Pgn) (sa : Byte) :
    Sys2Proof.Laws.EncodesOnPort.Statement (.idPack prio v sa) :=
  Sys2Proof.Laws.EncodesOnPort.unencoded rfl rfl

theorem Sys2Proof.Laws.EncodesOnPort.idUnpack (id : CanId) :
    Sys2Proof.Laws.EncodesOnPort.Statement (.idUnpack id) :=
  Sys2Proof.Laws.EncodesOnPort.unencoded rfl rfl

theorem Sys2Proof.Laws.EncodesOnPort.idDest (id : CanId) :
    Sys2Proof.Laws.EncodesOnPort.Statement (.idDest id) :=
  Sys2Proof.Laws.EncodesOnPort.unencoded rfl rfl

theorem Sys2Proof.Laws.EncodesOnPort.withDest (id : CanId) (dest : Byte) :
    Sys2Proof.Laws.EncodesOnPort.Statement (.withDest id dest) :=
  Sys2Proof.Laws.EncodesOnPort.unencoded rfl rfl

theorem Sys2Proof.Laws.EncodesOnPort.segments (bytes : List Byte) (n : Nat) :
    Sys2Proof.Laws.EncodesOnPort.Statement (.segments bytes n) :=
  Sys2Proof.Laws.EncodesOnPort.unencoded rfl rfl

theorem Sys2Proof.Laws.EncodesOnPort.nseg (len : Nat) :
    Sys2Proof.Laws.EncodesOnPort.Statement (.nseg len) :=
  Sys2Proof.Laws.EncodesOnPort.unencoded rfl rfl

theorem Sys2Proof.Laws.EncodesOnPort.tpPad (bytes : List Byte) :
    Sys2Proof.Laws.EncodesOnPort.Statement (.tpPad bytes) :=
  Sys2Proof.Laws.EncodesOnPort.unencoded rfl rfl
end

