-- ==== Sys2Proof/Machine/Script.lean ====
section
/-! DEFINITION. The script notation of 30_encoding.md R111 and R112 as lists of inputs: each line is one step, each
macro its expansion. A script runs by being placed as the pending inputs of a state; `@OK` and `@ERR` are the answers
the environment supplies. -/

namespace Sys2Proof.Machine

/-- `W off, value` (R111). -/
def scriptW (off : Offset) (v : Word) : Input := .host { dir := .write, off := off, size := .b4, wdata := v }
/-- `WB off, value` (R111). -/
def scriptWB (off : Offset) (v : Byte) : Input :=
  .host { dir := .write, off := off, size := .b1, wdata := v.setWidth 32 }
/-- `R off` (R111). -/
def scriptR (off : Offset) : Input := .host { dir := .read, off := off, size := .b4, wdata := 0 }
/-- `RX id, [bytes]` (R111). -/
def scriptRX (id : CanId) (data : List Byte) : Input := .rx (frame id data)
/-- `RXS id, [bytes]` (R111). -/
def scriptRXS (id : BitVec 11) (data : List Byte) : Input :=
  .rx { ext := false, id := id.setWidth 29, data := data }

/-- `ENABLE [ign]` (R112). -/
def scriptEnable (ign : Bool) : Input := scriptW 0x000 (if ign then 0x3 else 0x1)
/-- `SHUTDOWN` (R112): EN = 0, IGN_TXERR kept. -/
def scriptShutdown (s : State) : Input := scriptW 0x000 (if s.ignTxerr then 0x2 else 0x0)
/-- `CMD` with its opcode (R112). -/
def scriptCmd (opc : Word) : Input := scriptW 0x00C opc
/-- `LOAD [b0..bn-1]` from TXBUF index `i` on (R112). -/
def scriptLoad : Nat → List Byte → List Input
  | _, [] => []
  | i, b :: bs => scriptWB (BitVec.ofNat 12 (0x800 + i)) b :: scriptLoad (i + 1) bs
/-- `BUILD p, pgn, s` (R112). -/
def scriptBuild (p : Prio) (pgn : Pgn) (src : Byte) : List Input :=
  [scriptW 0x018 (pgn.setWidth 32), scriptW 0x01C (p.setWidth 32 ||| (src.setWidth 32 <<< 8)), scriptCmd 0x1]
/-- `BUILD p, pgn, s, d` (R112). -/
def scriptBuildTo (p : Prio) (pgn : Pgn) (src dst : Byte) : List Input :=
  [scriptW 0x018 (pgn.setWidth 32),
   scriptW 0x01C (p.setWidth 32 ||| (src.setWidth 32 <<< 8) ||| (dst.setWidth 32 <<< 16) ||| (1 <<< 24)),
   scriptCmd 0x1]
/-- `SETDEST d` (R112). -/
def scriptSetDest (dst : Byte) : List Input := [scriptW 0x01C (dst.setWidth 32 <<< 16), scriptCmd 0x2]
/-- `SENDPDU id, [bytes]` (R112). -/
def scriptSendPdu (id : CanId) (bytes : List Byte) : List Input :=
  scriptLoad 0 bytes ++
    [scriptW 0x014 (id.setWidth 32), scriptW 0x020 (BitVec.ofNat 32 bytes.length), scriptCmd 0x3]
/-- `CLAIM a` (R112), with the host's copy of the word. -/
def scriptClaim (a : Byte) (copy : Word) : Input :=
  scriptW (BitVec.ofNat 12 (0x060 + 4 * (a.toNat / 32))) (copy ||| (1 <<< (a.toNat % 32)))

/-- A state with a script as its pending inputs and the oracle's answers to it. -/
def withScript (xs : List Input) (answers : List TxAns) (s : State) : State :=
  { s with env := { s.env with inputs := xs, answers := answers } }

end Sys2Proof.Machine
end

