-- ==== Sys2Proof/Tests/Slice0.lean ====
section
/-! SUPPORT. The model's own tests. Expected values are those of spec/95_test_vectors.md (named in each comment) or are
written out from the tables of 20_memory.md and 30_encoding.md; then one witness for each hypothesis of a statement. -/

namespace Sys2Proof.Tests

open Sys2Proof Sys2Proof.Machine

/-! ## Helpers -/

/-- A field of the next state, none where the step stops. -/
def field {α : Type} (f : State → α) : Out → Option α
  | .next s => some (f s)
  | .fault _ => none
  | .refused _ => none

/-- The fault of a step, none where it goes on. -/
def faultOf : Out → Option Fault
  | .fault r => some r
  | .next _ => none
  | .refused _ => none

/-- Enabled, the oracle's next answers given. -/
def enabled (answers : List TxAns) : State :=
  { State.reset with en := true, env := { Env.start with answers := answers } }

/-- TXBUF from index 0 on. -/
def bufOf (bytes : List Byte) : List Host.Cell := (List.range bytes.length).zip bytes

/-- Ready to SEND `bytes` under `id`. -/
def sending (id : CanId) (bytes : List Byte) (answers : List TxAns) : State :=
  { enabled answers with argId := id, argLen := BitVec.ofNat 11 bytes.length, txbuf := bufOf bytes }

/-- Bytes 0x00, 0x01, … -/
def counting (n : Nat) : List Byte := (List.range n).map (BitVec.ofNat 8)

/-- The RTS session of 95 section 2.7: (0x80, 0x25), 9 bytes announced, 7 of them received. -/
def session : RxEntry :=
  { kind := .rts, prio := 7, tlen := 9, tseg := 2, pgn := 0x0EF00, buf := [1, 2, 3, 4, 5, 6, 7] }

/-- Enabled, address 0x25 claimed (W 0x064, 0x20), with RX sessions. -/
def receiving (rxs : List (Nat × RxEntry)) (answers : List TxAns) : State :=
  { enabled answers with claimed1 := 0x20, rxs := rxs }

/-- The TX session of 95 section 2.6: (0x80, 0x25) from ARG_ID 0x0CEF2580, 33 bytes, 5 segments. -/
def transfer : TxEntry := txEntry 0x0CEF2580 (counting 33)

/-- Enabled, with that transfer in flight. -/
def transmitting (answers : List TxAns) : State :=
  { enabled answers with txs := [(pairKey 0x80 0x25, transfer)] }

/-- A host access. -/
def host (dir : Dir) (off : Offset) (size : Size) (wdata : Word) : Input :=
  .host { dir := dir, off := off, size := size, wdata := wdata }

/-- A frame with an answer on CAN_TX. -/
def sent (id : CanId) (data : List Byte) (ans : TxAns) : PortOut := .tx { frame := frame id data, ans := ans }

/-! ## Ill-formed terms are refused -/

theorem test_wf_rxStd : (Instr.rxStd 0x123 (counting 9)).wellFormed = false := by decide
theorem test_wf_rxCmBadlen : (Instr.rxCmBadlen 7 0x25 0x80 (counting 8)).wellFormed = false := by decide
theorem test_wf_rxCmOther : (Instr.rxCmOther 7 0x25 0x80 0x13).wellFormed = false := by decide
theorem test_wf_rxDt : (Instr.rxDt 7 0x25 0x80 (counting 9)).wellFormed = false := by decide
theorem test_wf_rxPass_long : (Instr.rxPass 0x18FEDA11 (counting 9)).wellFormed = false := by decide
theorem test_wf_rxPass_tpcm : (Instr.rxPass 0x1CEC2580 []).wellFormed = false := by decide
theorem test_wf_rxPass_tpdt : (Instr.rxPass 0x1CEB2580 []).wellFormed = false := by decide
theorem test_wf_wTxbuf_register : (Instr.wTxbuf 0x7FC .b4 0).wellFormed = false := by decide
theorem test_wf_wTxbuf_misaligned : (Instr.wTxbuf 0x801 .b2 0).wellFormed = false := by decide
theorem test_wf_wRegOther_txbuf : (Instr.wRegOther 0x800 0).wellFormed = false := by decide
theorem test_wf_wRegOther_misaligned : (Instr.wRegOther 0x012 0).wellFormed = false := by decide
theorem test_wf_wRegOther_writable : (Instr.wRegOther 0x07C 0).wellFormed = false := by decide
theorem test_wf_rReg_txbuf : (Instr.rReg 0x800).wellFormed = false := by decide
theorem test_wf_rReg_misaligned : (Instr.rReg 0x001).wellFormed = false := by decide
theorem test_wf_rTxbuf_register : (Instr.rTxbuf 0x000 .b4).wellFormed = false := by decide
theorem test_wf_rTxbuf_misaligned : (Instr.rTxbuf 0x802 .b4).wellFormed = false := by decide
theorem test_wf_hostIllegal : (Instr.hostIllegal .write 0x000 .b4 0).wellFormed = false := by decide
theorem test_wf_txShort : (Instr.txShort 0x18FEDA11 (counting 9)).wellFormed = false := by decide
theorem test_wf_txDtRts_global : (Instr.txDtRts 0xFF 0x80 1 (counting 7)).wellFormed = false := by decide
theorem test_wf_txDtRts_seq : (Instr.txDtRts 0x25 0x80 0 (counting 7)).wellFormed = false := by decide
theorem test_wf_txDtRts_len : (Instr.txDtRts 0x25 0x80 1 (counting 6)).wellFormed = false := by decide
theorem test_wf_txDtBam_seq : (Instr.txDtBam 0x80 0 (counting 7)).wellFormed = false := by decide
theorem test_wf_txDtBam_len : (Instr.txDtBam 0x80 1 (counting 8)).wellFormed = false := by decide
theorem test_wf_segments : (Instr.segments [1, 2, 3] 0).wellFormed = false := by decide
theorem test_wf_input_long : (Input.rx (frame 0x18FEDA11 (counting 9))).wellFormed = false := by decide
theorem test_wf_input_std :
    (Input.rx { ext := false, id := 0x800, data := [] }).wellFormed = false := by decide

/-! ## Decoding, every row that has an encoding: command words (R98, R99) -/

theorem test_decode_nop : decode (.cmd 0x00000000) = .ok .nop := by decide
theorem test_decode_buildId : decode (.cmd 0x00000001) = .ok .buildId := by decide
theorem test_decode_setDest : decode (.cmd 0x00000002) = .ok .setDest := by decide
theorem test_decode_send : decode (.cmd 0xFFFFFFF3) = .ok .send := by decide
theorem test_decode_reservedCmd4 : decode (.cmd 0x00000004) = .ok .reservedCmd4 := by decide
theorem test_decode_reservedCmd5 : decode (.cmd 0x00000005) = .ok .reservedCmd5 := by decide
theorem test_decode_reservedCmd6 : decode (.cmd 0x00000006) = .ok .reservedCmd6 := by decide
theorem test_decode_reservedCmd7 : decode (.cmd 0x00000007) = .ok .reservedCmd7 := by decide
theorem test_decode_reservedCmd8 : decode (.cmd 0x00000008) = .ok .reservedCmd8 := by decide
theorem test_decode_reservedCmd9 : decode (.cmd 0x00000009) = .ok .reservedCmd9 := by decide
theorem test_decode_reservedCmdA : decode (.cmd 0x0000000A) = .ok .reservedCmdA := by decide
theorem test_decode_reservedCmdB : decode (.cmd 0x0000000B) = .ok .reservedCmdB := by decide
theorem test_decode_reservedCmdC : decode (.cmd 0x0000000C) = .ok .reservedCmdC := by decide
theorem test_decode_reservedCmdD : decode (.cmd 0x0000000D) = .ok .reservedCmdD := by decide
theorem test_decode_reservedCmdE : decode (.cmd 0x0000000E) = .ok .reservedCmdE := by decide
theorem test_decode_reservedCmdF : decode (.cmd 0x0000001F) = .ok .reservedCmdF := by decide

/-! ## Received frames: the rows of 95 section 2.5 (R102, R103) -/

theorem test_decode_rxStd :
    decode (.rx { ext := false, id := 0x123, data := [0x01] }) = .ok (.rxStd 0x123 [0x01]) := by decide
theorem test_decode_rxCmBadlen :
    decode (.rx (frame 0x1CEC2580 [0x10, 0x09, 0x00])) = .ok (.rxCmBadlen 7 0x25 0x80 [0x10, 0x09, 0x00]) := by decide
theorem test_decode_rxRts :
    decode (.rx (frame 0x1CEC2580 [0x10, 0x34, 0x12, 0x03, 0xFF, 0x56, 0x78, 0xFD])) =
      .ok (.rxRts 7 0x25 0x80 0x1234 3 0x17856) := by decide
theorem test_decode_rxCts :
    decode (.rx (frame 0x18EC8025 [0x11, 0x02, 0x03, 0xFF, 0xFF, 0x00, 0xEF, 0x00])) =
      .ok (.rxCts 6 0x80 0x25 2 3) := by decide
theorem test_decode_rxEomack :
    decode (.rx (frame 0x1CEC8025 [0x13, 0x21, 0x00, 0x05, 0xFF, 0x00, 0xEF, 0x00])) =
      .ok (.rxEomack 7 0x80 0x25) := by decide
theorem test_decode_rxBam :
    decode (.rx (frame 0x1CECFF11 [0x20, 0x0A, 0x00, 0x02, 0xFF, 0xDA, 0xFE, 0x00])) =
      .ok (.rxBam 7 0xFF 0x11 10 2 0x0FEDA) := by decide
theorem test_decode_rxAbort :
    decode (.rx (frame 0x1CEC2580 [0xFF, 0x01, 0xFF, 0xFF, 0xFF, 0x00, 0xEF, 0x00])) =
      .ok (.rxAbort 7 0x25 0x80) := by decide
theorem test_decode_rxCmOther :
    decode (.rx (frame 0x1CEC2580 [0x12, 0x09, 0x00, 0x02, 0xFF, 0x00, 0xEF, 0x00])) =
      .ok (.rxCmOther 7 0x25 0x80 0x12) := by decide
theorem test_decode_rxDt : decode (.rx (frame 0x1CEB2580 [])) = .ok (.rxDt 7 0x25 0x80 []) := by decide
/-- DP = 1: no TP frame (R105). -/
theorem test_decode_rxPass :
    decode (.rx (frame 0x1DEC2580 [0x10, 0x09, 0x00, 0x02, 0xFF, 0x00, 0xEF, 0x00])) =
      .ok (.rxPass 0x1DEC2580 [0x10, 0x09, 0x00, 0x02, 0xFF, 0x00, 0xEF, 0x00]) := by decide
theorem test_decode_paceTick : decode .pace = .ok .paceTick := by decide
theorem test_decode_reset : decode .rst = .ok .reset := by decide
/-- The intake word of 95 section 2.5 for the RX_BAM row. -/
theorem test_intakeWord : intakeWord (frame 0x1CECFF11 [0x20]) = 0x3CECFF1120 := by decide
/-- R103: every mask holds its pattern. -/
theorem test_intakeMap_masks : intakeMap.all (fun r => r.pat &&& r.mask == r.pat) = true := by decide

/-! ## Host accesses (R61 to R63) -/

theorem test_decode_wCtrl : decode (host .write 0x000 .b4 0x3) = .ok (.wCtrl 0x3) := by decide
theorem test_decode_wStatus : decode (host .write 0x004 .b4 0x2) = .ok (.wStatus 0x2) := by decide
theorem test_decode_wIe : decode (host .write 0x008 .b4 0x1) = .ok (.wIe 0x1) := by decide
theorem test_decode_wCmd : decode (host .write 0x00C .b4 0x3) = .ok (.wCmd 0x3) := by decide
theorem test_decode_wArgId : decode (host .write 0x014 .b4 0x5) = .ok (.wArgId 0x5) := by decide
theorem test_decode_wArgPgn : decode (host .write 0x018 .b4 0x5) = .ok (.wArgPgn 0x5) := by decide
theorem test_decode_wArgAddr : decode (host .write 0x01C .b4 0x5) = .ok (.wArgAddr 0x5) := by decide
theorem test_decode_wArgLen : decode (host .write 0x020 .b4 0x5) = .ok (.wArgLen 0x5) := by decide
theorem test_decode_wPvCnt : decode (host .write 0x040 .b4 0xDEAD) = .ok (.wPvCnt 0xDEAD) := by decide
theorem test_decode_wTxerrCnt : decode (host .write 0x044 .b4 0x5) = .ok (.wTxerrCnt 0x5) := by decide
theorem test_decode_wDropCnt : decode (host .write 0x048 .b4 0x5) = .ok (.wDropCnt 0x5) := by decide
theorem test_decode_wClaimed0 : decode (host .write 0x060 .b4 0x5) = .ok (.wClaimed0 0x5) := by decide
theorem test_decode_wClaimed1 : decode (host .write 0x064 .b4 0x5) = .ok (.wClaimed1 0x5) := by decide
theorem test_decode_wClaimed2 : decode (host .write 0x068 .b4 0x5) = .ok (.wClaimed2 0x5) := by decide
theorem test_decode_wClaimed3 : decode (host .write 0x06C .b4 0x5) = .ok (.wClaimed3 0x5) := by decide
theorem test_decode_wClaimed4 : decode (host .write 0x070 .b4 0x5) = .ok (.wClaimed4 0x5) := by decide
theorem test_decode_wClaimed5 : decode (host .write 0x074 .b4 0x5) = .ok (.wClaimed5 0x5) := by decide
theorem test_decode_wClaimed6 : decode (host .write 0x078 .b4 0x5) = .ok (.wClaimed6 0x5) := by decide
theorem test_decode_wClaimed7 : decode (host .write 0x07C .b4 0x5) = .ok (.wClaimed7 0x5) := by decide
theorem test_decode_wTxbuf : decode (host .write 0xEF8 .b4 0x5) = .ok (.wTxbuf 0xEF8 .b4 0x5) := by decide
/-- RESULT is read-only (R66). -/
theorem test_decode_wRegOther : decode (host .write 0x010 .b4 0x5) = .ok (.wRegOther 0x010 0x5) := by decide
theorem test_decode_rReg : decode (host .read 0x00C .b4 0x0) = .ok (.rReg 0x00C) := by decide
theorem test_decode_rTxbuf : decode (host .read 0x801 .b1 0x0) = .ok (.rTxbuf 0x801 .b1) := by decide
theorem test_decode_hostIllegal : decode (host .write 0x801 .b2 0x5) = .ok (.hostIllegal .write 0x801 .b2 0x5) := by
  decide

/-! ## Emitted frames (R110; words of 95 sections 2.6 and 2.7) -/

theorem test_decode_txShort : decodeEmitted (frame 0x18FEDA11 [0x55]) = .txShort 0x18FEDA11 [0x55] := by decide
theorem test_decode_txRts :
    decodeEmitted (frame 0x1CEC2580 [0x10, 0x09, 0x00, 0x02, 0xFF, 0x00, 0xEF, 0x00]) =
      .txRts 0x25 0x80 9 2 0x0EF00 := by decide
theorem test_decode_txBam :
    decodeEmitted (frame 0x1CECFF11 [0x20, 0x0A, 0x00, 0x02, 0xFF, 0xDA, 0xFE, 0x00]) =
      .txBam 0x11 10 2 0x0FEDA := by decide
theorem test_decode_txDtRts :
    decodeEmitted (frame 0x1CEB2580 [0x05, 0x1C, 0x1D, 0x1E, 0x1F, 0x20, 0xFF, 0xFF]) =
      .txDtRts 0x25 0x80 5 [0x1C, 0x1D, 0x1E, 0x1F, 0x20, 0xFF, 0xFF] := by decide
theorem test_decode_txDtBam :
    decodeEmitted (frame 0x1CEBFF80 [0x02, 0x07, 0x08, 0xFF, 0xFF, 0xFF, 0xFF, 0xFF]) =
      .txDtBam 0x80 2 [0x07, 0x08, 0xFF, 0xFF, 0xFF, 0xFF, 0xFF] := by decide
theorem test_decode_txCts :
    decodeEmitted (frame 0x1CEC8025 [0x11, 0x03, 0x01, 0xFF, 0xFF, 0x00, 0xEF, 0x00]) =
      .txCts 0x80 0x25 3 0x0EF00 := by decide
theorem test_decode_txEomack :
    decodeEmitted (frame 0x1CEC8025 [0x13, 0x10, 0x00, 0x03, 0xFF, 0x00, 0xEF, 0x00]) =
      .txEomack 0x80 0x25 16 3 0x0EF00 := by decide

/-! ## The codec (95 sections 2.1 and 2.2) -/

theorem test_pgnPack : pgnPack false false 0xFE 0xDA = 0x0FEDA ∧ pgnPack true true 0xFF 0xFF = 0x3FFFF := by decide
theorem test_pgnFields :
    (pgnR 0x3F0AB, pgnDp 0x3F0AB, pgnPf 0x3F0AB, pgnPs 0x3F0AB) = (true, true, 0xF0, 0xAB) := by decide
theorem test_isPdu1 : [0x0EF00, 0x0F000, 0x0FFFF, 0x1FEDA, 0x2FEDA, 0x00000].map isPdu1 =
    [true, false, false, true, true, true] := by decide
theorem test_pgnNumber : [0x0EF25, 0x0FEDA, 0x1FE33, 0x3FFFF].map pgnNumber =
    [0x0EF00, 0x0FEDA, 0x1FE00, 0x3FF00] := by decide
theorem test_idPack : idPack 6 0x0FEDA 0x11 = 0x18FEDA11 ∧ idPack 7 0x3FFFF 0xFF = 0x1FFFFFFF := by decide
theorem test_idUnpack : (idPrio 0x0CEF2580, idPgn 0x0CEF2580, idSa 0x0CEF2580) = (3, 0x0EF25, 0x80) := by decide
theorem test_idDest : idDest 0x0CEF2580 = some 0x25 ∧ idDest 0x18FEDA11 = none ∧ idDest 0x0CEFFF80 = some 0xFF := by
  decide
theorem test_withDest : withDest 0x0CEF2580 0x31 = 0x0CEF3180 := by decide
/-- 95 section 2.4. -/
theorem test_segments : (segments (counting 16) 7).map List.length = [7, 7, 2] ∧ segments [] 7 = [] ∧
    (segments (counting 14) 7).map List.length = [7, 7] ∧ segments (counting 3) 8 = [counting 3] := by decide
theorem test_nseg : [9, 14, 15, 16, 1785].map nseg = [2, 2, 3, 3, 255] := by decide
theorem test_tpPad : (tpPad (counting 9)).drop 7 = [0x07, 0x08, 0xFF, 0xFF, 0xFF, 0xFF, 0xFF] ∧
    tpPad (counting 14) = counting 14 := by decide
/-- A FUNC row answers on the model's own log (log entry 10). -/
theorem test_func_row : field (fun s => s.env.outs) (exec (.idDest 0x0CEF2580) State.reset) =
    some [.func (.dest (some 0x25))] := by decide

/-! ## Commands (95 section 2.3) -/

theorem test_nop : field (fun s => (s.result, s.env.outs)) (exec .nop { State.reset with result := .busy }) =
    some (.ok, [okayOut]) := by decide
theorem test_reservedCmd7 : field (fun s => s.result) (exec .reservedCmd7 State.reset) = some .illegalCmd := by decide
theorem test_reservedCmdF : field (fun s => s.result) (exec .reservedCmdF State.reset) = some .illegalCmd := by decide
/-- ARG_PGN 0x0EF00, ARG_ADDR 0x01258003. -/
theorem test_buildId_dest : field (fun s => (s.argId, s.result)) (exec .buildId { State.reset with
    argPgn := 0x0EF00, argPrio := 3, argSrc := 0x80, argDest := 0x25, argDestPresent := true }) =
    some (0x0CEF2580, .ok) := by decide
/-- ARG_PGN 0x0FEDA with a destination present: INVALID_OP, ARG_ID unchanged. -/
theorem test_buildId_invalid : field (fun s => (s.argId, s.result)) (exec .buildId { State.reset with
    argPgn := 0x0FEDA, argPrio := 3, argSrc := 0x80, argDest := 0x25, argDestPresent := true }) =
    some (0, .invalidOp) := by decide
theorem test_setDest : field (fun s => (s.argId, s.result))
    (exec .setDest { State.reset with argId := 0x0CEF2580, argDest := 0x31 }) = some (0x0CEF3180, .ok) := by decide
/-- S14. -/
theorem test_setDest_pdu2 : field (fun s => (s.argId, s.result)) (exec .setDest { State.reset with argId := 0x18FEDA11 }) =
    some (0x18FEDA11, .invalidOp) := by decide

/-! ## SEND (95 section 2.6) -/

/-- P1: three bytes. -/
theorem test_send_short : field (fun s => (s.result, s.env.outs)) (exec .send (sending 0x18FEDA11 [1, 2, 3] [.ok])) =
    some (.ok, [sent 0x18FEDA11 [1, 2, 3] .ok, okayOut]) := by decide
/-- TXBUF[3] never written. -/
theorem test_send_unwritten : faultOf (exec .send { sending 0x18FEDA11 [1, 2, 3] [] with argLen := 4 }) =
    some (.unwrittenTxbuf 3) := by decide
/-- RTS, 9 bytes, as the step of a CMD write. -/
theorem test_wCmd_send_rts : field (fun s => (s.result, s.env.outs, s.txs.map (fun p => (p.2.nseg, p.2.segs))))
    (exec (.wCmd 0x3) (sending 0x0CEF2580 (counting 9) [.ok])) =
    some (.ok, [sent 0x1CEC2580 [0x10, 0x09, 0x00, 0x02, 0xFF, 0x00, 0xEF, 0x00] .ok, okayOut],
      [(2, counting 9 ++ [0xFF, 0xFF, 0xFF, 0xFF, 0xFF])]) := by decide
/-- PDU1 to the global address goes as a BAM. -/
theorem test_wCmd_send_bam : field (fun s => (s.env.outs, s.bamq))
    (exec (.wCmd 0x3) (sending 0x0CEFFF80 (counting 9) [.ok])) =
    some ([sent 0x1CECFF80 [0x20, 0x09, 0x00, 0x02, 0xFF, 0x00, 0xEF, 0x00] .ok, okayOut],
      [frame 0x1CEBFF80 [1, 0, 1, 2, 3, 4, 5, 6],
       frame 0x1CEBFF80 [2, 7, 8, 0xFF, 0xFF, 0xFF, 0xFF, 0xFF]]) := by decide

/-! ## CTS and EOM-ACK (95 section 2.6) -/

/-- S6: start 3, count 2. -/
theorem test_rxCts_window : field (fun s => s.env.outs) (exec (.rxCts 7 0x80 0x25 2 3) (transmitting [.ok, .ok])) =
    some [sent 0x1CEB2580 [0x03, 0x0E, 0x0F, 0x10, 0x11, 0x12, 0x13, 0x14] .ok,
      sent 0x1CEB2580 [0x04, 0x15, 0x16, 0x17, 0x18, 0x19, 0x1A, 0x1B] .ok] := by decide
/-- Count 3, start 1, the second frame answered ERR: it ends the window, and the entry stays. -/
theorem test_rxCts_abort : field (fun s => (s.env.outs.length, s.txerr, s.txs.length, s.pvCnt))
    (exec (.rxCts 7 0x80 0x25 3 1) (transmitting [.ok, .err])) = some (2, true, 1, 0) := by decide
theorem test_rxEomack : field (fun s => (s.txs, s.pvCnt)) (exec (.rxEomack 7 0x80 0x25) (transmitting [])) =
    some ([], 0) := by decide
theorem test_rxEomack_orphan : field (fun s => (s.pv, s.pvCnt)) (exec (.rxEomack 7 0x80 0x25) (enabled [])) =
    some (true, 1) := by decide

/-! ## Reception (95 section 2.7) -/

theorem test_rxStd : field (fun s => (s.dropCnt, s.pvCnt)) (exec (.rxStd 0x123 [1]) (enabled [])) = some (1, 0) := by
  decide
theorem test_rxCmBadlen : field (fun s => (s.dropCnt, s.pvCnt)) (exec (.rxCmBadlen 7 0x25 0x80 [0x10]) (enabled [])) =
    some (0, 1) := by decide
theorem test_rxCmOther : field (fun s => (s.pv, s.pvCnt)) (exec (.rxCmOther 7 0x25 0x80 0x12) (enabled [])) =
    some (true, 1) := by decide
theorem test_rxPass : field (fun s => s.env.outs) (exec (.rxPass 0x18FEDA11 [1, 2, 3]) (enabled [])) =
    some [.pdu { kind := .frame, id := 0x18FEDA11, len := 3, data := [1, 2, 3] }] := by decide
/-- RTS to a claimed address. -/
theorem test_rxRts_claimed : field (fun s => (s.env.outs, s.rxs)) (exec (.rxRts 7 0x25 0x80 16 3 0x0EF00) (receiving [] [.ok])) =
    some ([sent 0x1CEC8025 [0x11, 0x03, 0x01, 0xFF, 0xFF, 0x00, 0xEF, 0x00] .ok],
      [(pairKey 0x80 0x25, { kind := .rts, prio := 7, tlen := 16, tseg := 3, pgn := 0x0EF00, buf := [] })]) := by decide
/-- tlen 1786, with an entry of the same key: two violations, and the entry is gone (R182, R183). -/
theorem test_rxRts_tooLong : field (fun s => (s.env.outs, s.rxs, s.pvCnt))
    (exec (.rxRts 7 0x25 0x80 1786 255 0x0EF00) (receiving [(pairKey 0x80 0x25, session)] [])) =
    some ([], [], 2) := by decide
theorem test_rxBam : field (fun s => (s.env.outs, s.rxs)) (exec (.rxBam 7 0xFF 0x11 10 2 0x0FEDA) (enabled [])) =
    some ([], [(pairKey 0x11 0xFF, { kind := .bam, prio := 7, tlen := 10, tseg := 2, pgn := 0x0FEDA, buf := [] })]) := by
  decide
/-- The last data frame of an RTS transfer to a claimed address: EOM-ACK, then the PDU (R80). -/
theorem test_rxDt_completes : field (fun s => (s.env.outs, s.rxs))
    (exec (.rxDt 7 0x25 0x80 [2, 8, 9, 0xFF, 0xFF, 0xFF, 0xFF, 0xFF])
      (receiving [(pairKey 0x80 0x25, session)] [.ok])) =
    some ([sent 0x1CEC8025 [0x13, 0x09, 0x00, 0x02, 0xFF, 0x00, 0xEF, 0x00] .ok,
      .pdu { kind := .tp, id := 0x1CEF2580, len := 9, data := [1, 2, 3, 4, 5, 6, 7, 8, 9] }], []) := by decide
/-- The same with a failing EOM-ACK: no PDU. -/
theorem test_rxDt_eomackErr : field (fun s => (s.env.outs.length, s.rxs, s.txerr))
    (exec (.rxDt 7 0x25 0x80 [2, 8, 9]) (receiving [(pairKey 0x80 0x25, session)] [.err])) =
    some (1, [], true) := by decide
/-- An Abort deletes the RX session only. -/
theorem test_rxAbort : field (fun s => (s.rxs, s.txs.length, s.pvCnt))
    (exec (.rxAbort 7 0x25 0x80) { transmitting [] with rxs := [(pairKey 0x80 0x25, session)] }) =
    some ([], 1, 0) := by decide
/-- EN = 0: nothing (R146). -/
theorem test_rxStd_disabled : field (fun s => s) (exec (.rxStd 0x123 [1]) State.reset) = some State.reset := by decide

/-! ## Tick and reset (95 section 2.8) -/

theorem test_paceTick_err : field (fun s => (s.bamq, s.txerrCnt, s.txerr)) (exec .paceTick { enabled [.err] with
    bamq := [frame 0x1CEBFF80 (counting 8), frame 0x1CEBFF80 (counting 8)] }) =
    some ([frame 0x1CEBFF80 (counting 8)], 1, true) := by decide
theorem test_paceTick_empty : field (fun s => s) (exec .paceTick (enabled [])) = some (enabled []) := by decide
theorem test_reset : field (fun s => (s.en, s.txs, s.argId, s.env.outs)) (exec .reset { transmitting [] with argId := 5 }) =
    some (false, [], 0, []) := by decide

/-! ## Host accesses (95 sections 2.8 and 2.9) -/

theorem test_wCtrl_shutdown : field (fun s => (s.en, s.txs, s.pvCnt)) (exec (.wCtrl 0x0) { transmitting [] with pvCnt := 3 }) =
    some (false, [], 3) := by decide
theorem test_wCtrl_enable : field (fun s => (s.en, s.ignTxerr)) (exec (.wCtrl 0x3) State.reset) = some (true, true) := by
  decide
/-- STATUS = 0x3; W 0x004, 0x2. -/
theorem test_wStatus_w1c : field statusWord (exec (.wStatus 0x2) { State.reset with txerr := true, pv := true }) =
    some 0x1 := by decide
theorem test_wIe_irq : field irq (exec (.wIe 0x3) { State.reset with txerr := true }) = some true := by decide
theorem test_wIe_masked : field irq (exec (.wIe 0x1) { State.reset with pv := true }) = some false := by decide
theorem test_wArgId_truncates : field (fun s => s.argId) (exec (.wArgId 0xFFFFFFFF) State.reset) = some 0x1FFFFFFF := by
  decide
theorem test_wArgPgn_truncates : field (fun s => s.argPgn) (exec (.wArgPgn 0xFFFFFFFF) State.reset) = some 0x3FFFF := by
  decide
/-- ARG_ADDR 0x01258003 (R108). -/
theorem test_wArgAddr : field (fun s => (s.argPrio, s.argSrc, s.argDest, s.argDestPresent))
    (exec (.wArgAddr 0x01258003) State.reset) = some (3, 0x80, 0x25, true) := by decide
/-- Reserved bits read 0 (R39). -/
theorem test_wArgAddr_reserved : field (fun s => regWord s 0x01C) (exec (.wArgAddr 0xFFFFFFFF) State.reset) =
    some 0x01FFFF07 := by decide
theorem test_wArgLen_truncates : field (fun s => s.argLen) (exec (.wArgLen 0xFFFFFFFF) State.reset) = some 0x7FF := by
  decide
theorem test_wPvCnt : field (fun s => (s.pvCnt, s.pv)) (exec (.wPvCnt 0xDEAD) { State.reset with pvCnt := 3, pv := true }) =
    some (0, true) := by decide
theorem test_wTxerrCnt : field (fun s => (s.pvCnt, s.txerrCnt)) (exec (.wTxerrCnt 1) { State.reset with pvCnt := 3, txerrCnt := 4 }) =
    some (3, 0) := by decide
theorem test_wDropCnt : field (fun s => (s.txerrCnt, s.dropCnt)) (exec (.wDropCnt 1) { State.reset with txerrCnt := 3, dropCnt := 4 }) =
    some (3, 0) := by decide
theorem test_wClaimed0 : field (fun s => (isClaimed s 0x1F, isClaimed s 0x3F)) (exec (.wClaimed0 0x80000000) State.reset) =
    some (true, false) := by decide
/-- CLAIMED1 bit 5 is address 0x25 (P3). -/
theorem test_wClaimed1 : field (fun s => isClaimed s 0x25) (exec (.wClaimed1 0x20) State.reset) = some true := by decide
theorem test_wClaimed2 : field (fun s => isClaimed s 0x40) (exec (.wClaimed2 1) State.reset) = some true := by decide
theorem test_wClaimed3 : field (fun s => isClaimed s 0x60) (exec (.wClaimed3 1) State.reset) = some true := by decide
theorem test_wClaimed4 : field (fun s => isClaimed s 0x80) (exec (.wClaimed4 1) State.reset) = some true := by decide
theorem test_wClaimed5 : field (fun s => isClaimed s 0xA0) (exec (.wClaimed5 1) State.reset) = some true := by decide
theorem test_wClaimed6 : field (fun s => isClaimed s 0xC0) (exec (.wClaimed6 1) State.reset) = some true := by decide
theorem test_wClaimed7 : field (fun s => regWord s 0x07C) (exec (.wClaimed7 0xFFFFFFFF) State.reset) =
    some 0x7FFFFFFF := by decide
theorem test_wTxbuf_lanes : field (fun s => s.txbuf) (exec (.wTxbuf 0x800 .b2 0x0000BBAA) State.reset) =
    some [(0, 0xAA), (1, 0xBB)] := by decide
/-- Lanes 0xEF9 to 0xEFB are ignored. -/
theorem test_wTxbuf_edge : field (fun s => s.txbuf) (exec (.wTxbuf 0xEF8 .b4 0x44332211) State.reset) =
    some [(1784, 0x11)] := by decide
theorem test_wRegOther : field (fun s => (s.result, s.env.outs)) (exec (.wRegOther 0x010 0x5) State.reset) =
    some (.ok, [okayOut]) := by decide
/-- ARG_ID = 0x0CEF2580: ID_FIELDS, ID_PGN, ID_PGNNUM, ID_DEST; and RESULT with the numbers of R101. -/
theorem test_rReg_words : [0x024, 0x028, 0x02C, 0x030].map (regWord { State.reset with argId := 0x0CEF2580 }) =
    [0x6CEF2580, 0x0000EF25, 0x0000EF00, 0x00000125] ∧
    [ResultCode.ok, .invalidOp, .dataTooLarge, .txErr, .busy, .queueFull, .disabled, .illegalCmd].map
      (fun c => regWord { State.reset with result := c } 0x010) = [0, 1, 2, 3, 4, 5, 6, 7] := by decide
theorem test_rReg_param : field (fun s => s.env.outs) (exec (.rReg 0x058) State.reset) =
    some [.host { resp := .okay, rdata := some 0x00100010 }] := by decide
theorem test_rTxbuf_ok : field (fun s => s.env.outs) (exec (.rTxbuf 0x800 .b2) { State.reset with txbuf := bufOf [0xAA, 0xBB] }) =
    some [.host { resp := .okay, rdata := some 0x0000BBAA }] := by decide
theorem test_rTxbuf_unwritten : faultOf (exec (.rTxbuf 0x800 .b4) { State.reset with txbuf := bufOf [0xAA, 0xBB] }) =
    some (.unwrittenTxbuf 2) := by decide
theorem test_hostIllegal_read : field (fun s => s.env.outs) (exec (.hostIllegal .read 0x002 .b4 0) State.reset) =
    some [.host { resp := .error, rdata := some 0 }] := by decide

/-! ## Emitted frames as instructions (log entry 9) -/

theorem test_txShort_err : field (fun s => (s.env.outs, s.txerr, s.txerrCnt)) (exec (.txShort 0x18FEDA11 [0x55]) (enabled [.err])) =
    some ([sent 0x18FEDA11 [0x55] .err], true, 1) := by decide
theorem test_txRts : field (fun s => s.env.outs) (exec (.txRts 0x25 0x80 9 2 0x0EF00) (enabled [.ok])) =
    some [sent 0x1CEC2580 [0x10, 0x09, 0x00, 0x02, 0xFF, 0x00, 0xEF, 0x00] .ok] := by decide
theorem test_txBam : field (fun s => s.env.outs) (exec (.txBam 0x11 10 2 0x0FEDA) (enabled [.ok])) =
    some [sent 0x1CECFF11 [0x20, 0x0A, 0x00, 0x02, 0xFF, 0xDA, 0xFE, 0x00] .ok] := by decide
theorem test_txDtRts : field (fun s => s.env.outs) (exec (.txDtRts 0x25 0x80 1 (counting 7)) (enabled [.ok])) =
    some [sent 0x1CEB2580 [0x01, 0x00, 0x01, 0x02, 0x03, 0x04, 0x05, 0x06] .ok] := by decide
theorem test_txDtBam : field (fun s => s.env.outs) (exec (.txDtBam 0x80 1 (counting 7)) (enabled [.ok])) =
    some [sent 0x1CEBFF80 [0x01, 0x00, 0x01, 0x02, 0x03, 0x04, 0x05, 0x06] .ok] := by decide
theorem test_txCts : field (fun s => s.env.outs) (exec (.txCts 0x80 0x25 3 0x0EF00) (enabled [.ok])) =
    some [sent 0x1CEC8025 [0x11, 0x03, 0x01, 0xFF, 0xFF, 0x00, 0xEF, 0x00] .ok] := by decide
theorem test_txEomack : field (fun s => s.env.outs) (exec (.txEomack 0x80 0x25 16 3 0x0EF00) (enabled [.ok])) =
    some [sent 0x1CEC8025 [0x13, 0x10, 0x00, 0x03, 0xFF, 0x00, 0xEF, 0x00] .ok] := by decide

/-! ## Steps and the table's words -/

/-- A step takes the first input and leaves the rest. -/
theorem test_step : field (fun s => (s.en, s.env.inputs)) (step
    { State.reset with env := { Env.start with inputs := [host .write 0x000 .b4 1, .pace] } }) =
    some (true, [.pace]) := by decide
/-- The word of SEND in opcode_table.json. -/
theorem test_tableWord_send : decodeTableWord 8 0x3 = some .send := by decide
/-- The word of RX_BAM in opcode_table.json with operand bits of zeros. -/
theorem test_tableWord_rxBam : decodeTableWord 40 0x20EC000020 = some (.rxBam 0 0 0 0 0 0) := by decide

/-! ## Witnesses: each hypothesis of a statement is met -/

theorem test_witness_DecodeOfEncodedInstruction :
    (Instr.rxCmOther 7 0x25 0x80 0x12).wellFormed = true ∧ encode (.rxCmOther 7 0x25 0x80 0x12) =
      some (.rx (frame 0x1CEC2580 [0x12, 0xFF, 0xFF, 0xFF, 0xFF, 0x00, 0x00, 0x00])) := by decide
theorem test_witness_DecodeOfEmittedFrame_tp : (Instr.txDtRts 0xFE 0x80 255 (counting 7)).wellFormed = true ∧
    encodeEmitted (.txDtRts 0xFE 0x80 255 (counting 7)) = some (frame 0x1CEBFE80 (255 :: counting 7)) := by decide
theorem test_witness_DecodeOfEmittedFrame_short : (Instr.txShort 0x18FEDA11 (counting 8)).wellFormed = true ∧
    encodeEmitted (.txShort 0x18FEDA11 (counting 8)) = some (frame 0x18FEDA11 (counting 8)) ∧
    classifyEmitted (frame 0x18FEDA11 (counting 8)) = .short := by decide
theorem test_witness_EveryPortRecordDecodes : (Input.rx { ext := false, id := 0x7FF, data := counting 8 }).wellFormed = true ∧
    8 < (frame 0x18FEDA11 (counting 9)).data.length ∧
    (let f : Frame := { ext := false, id := 0x800, data := counting 8 }
     f.data.length ≤ 8 ∧ f.ext = false ∧ 0x800 ≤ f.id.toNat) := by decide
theorem test_witness_StepRunsTheDecodedInstruction : State.reset.env.inputs = [] ∧
    (placeInput .pace State.reset).env.inputs = [.pace] ∧ decode .pace = .ok .paceTick ∧
    decode (.rx (frame 0x18FEDA11 (counting 9))) = .error .frameTooLong ∧
    decodeTableWord 8 0x1 = some .buildId := by decide
theorem test_witness_CmdWriteRunsItsCommand : (0x10 : Word).toNat % 16 = 0 ∧ (0x1 : Word).toNat % 16 = 1 ∧
    (0x2 : Word).toNat % 16 = 2 ∧ (0x3 : Word).toNat % 16 = 3 ∧ 4 ≤ (0x4 : Word).toNat % 16 ∧
    4 ≤ (0xF : Word).toNat % 16 := by decide
theorem test_witness_BroadcastFormPgn : isPdu1 0x0EFFF = true ∧ isPdu1 0x0F000 = false := by decide
theorem test_witness_CombinationalFunctionsAnswer :
    field (fun s => s.env.outs) (exec (.segments [1] 1) State.reset) = some [.func (.chunks [[1]])] := by decide
theorem test_witness_PaddingToWholeSegments : nseg 9 = 2 ∧ nseg 1785 = 255 := by decide
theorem test_witness_SegmentsCutTheSequence : (segments [1, 2, 3] 1).length = 3 ∧ [1] ∈ (segments [1, 2, 3] 1).dropLast := by
  decide
theorem test_witness_SegmentationRoundTrip : 9 ≤ (counting 9).length ∧
    (List.replicate 1785 (0 : Byte)).length ≤ 1785 := by
  refine ⟨by decide, ?_⟩
  rw [List.length_replicate]
theorem test_witness_NopAndReservedCommands : Instr.reservedCmd4 ∈ [Instr.reservedCmd4, .reservedCmdF] := by decide
theorem test_witness_SendChecksInOrder_fault :
    let s := { sending 0x18FEDA11 [1, 2, 3] [] with argLen := 4 }
    s.en = true ∧ s.argLen.toNat ≤ 1785 ∧ 3 < s.argLen.toNat ∧ txbufW s 3 = false ∧ ∀ j < 3, txbufW s j = true := by
  decide
theorem test_witness_SendChecksInOrder_lengths : State.reset.en = false ∧
    1785 < (1786 : BitVec 11).toNat ∧ (1785 : BitVec 11).toNat ≤ 1785 := by decide
theorem test_witness_SendChecksInOrder_written :
    let s := sending 0x18FEDA11 [1, 2, 3] []
    s.en = true ∧ s.argLen.toNat = 3 ∧ ∀ i < 3, txbufW s i = true := by decide
theorem test_witness_SendSingleFrame :
    let s := sending 0x18FEDA11 (counting 8) []
    s.en = true ∧ s.argLen.toNat = (counting 8).length ∧ (counting 8).length ≤ 8 ∧
      ∀ i : Nat, i < (counting 8).length → txbufByte s i = (counting 8)[i]? := by decide
theorem test_witness_SendSingleFrame_empty :
    let s := sending 0x18FEDA11 [] []
    s.en = true ∧ s.argLen.toNat = 0 := by decide
theorem test_witness_SendRtsPath :
    let s := sending 0x0CEFFE80 (counting 9) []
    s.en = true ∧ s.argLen.toNat = (counting 9).length ∧ 9 ≤ (counting 9).length ∧
      (∀ i : Nat, i < (counting 9).length → txbufByte s i = (counting 9)[i]?) ∧
      s.argId.extractLsb' 0 8 = (0x80 : Byte) ∧ s.argId.extractLsb' 8 8 = (0xFE : Byte) ∧
      isPdu1 (s.argId.extractLsb' 8 18) = true ∧ s.argId.extractLsb' 8 8 ≠ (0xFF : Byte) := by decide
theorem test_witness_SendBamPath :
    let s := sending 0x18FEDA11 (counting 9) []
    s.en = true ∧ s.argLen.toNat = (counting 9).length ∧ 9 ≤ (counting 9).length ∧
      (∀ i : Nat, i < (counting 9).length → txbufByte s i = (counting 9)[i]?) ∧
      isPdu1 (s.argId.extractLsb' 8 18) = false ∧
      (0x0CEFFF80 : CanId).extractLsb' 8 8 = (0xFF : Byte) := by decide
theorem test_witness_DisabledBlockIgnoresFramesAndTicks :
    isBusOrPacer (.rxDt 7 0x25 0x80 []) ∧ State.reset.en = false :=
  ⟨.inr ⟨frame 0x1CEB2580 [], by decide⟩, by decide⟩
theorem test_witness_enabled : (enabled []).en = true := by decide
/-- A fresh key and a key that is replaced, a claimed and an unclaimed destination. -/
theorem test_witness_AnnouncementsOpenSessions :
    (1785 : BitVec 16).toNat ≤ 1785 ∧ (enabled []).rxs.length ≠ (enabled []).params.nRxSess ∧
      tblHas (receiving [(pairKey 0x80 0x25, session)] []).rxs (pairKey 0x80 0x25) = true ∧
      isClaimed (receiving [] []) 0x25 = true ∧ isClaimed (receiving [] []) 0x26 = false := by decide
/-- A length over 1785, and a full table without the key. -/
theorem test_witness_AnnouncementsOpenSessions_refused : 1785 < (1786 : BitVec 16).toNat ∧
    (let s := { receiving [(pairKey 0x90 0x25, session)] [] with params := { Config.suggested with nRxSess := 1 } }
     s.en = true ∧ tblHas s.rxs (pairKey 0x80 0x25) = false ∧ s.rxs.length = s.params.nRxSess) := by decide
theorem test_witness_ReplacementDiscardsTheOldSession :
    let s := receiving [(pairKey 0x80 0x25, session)] []
    (Instr.rxBam 7 0x25 0x80 10 2 0x0FEDA = .rxRts 7 0x25 0x80 10 2 0x0FEDA ∨
      Instr.rxBam 7 0x25 0x80 10 2 0x0FEDA = .rxBam 7 0x25 0x80 10 2 0x0FEDA) ∧ s.en = true ∧
      tblHas s.rxs (pairKey 0x80 0x25) = true := by decide
theorem test_witness_CtsSendsExactlyItsWindow : (transmitting []).en = true ∧
    tblFind (transmitting []).txs (pairKey 0x80 0x25) = some transfer ∧ (1 : Byte) ≠ 0 ∧ (255 : Byte) ≠ 0 := by decide
theorem test_witness_OrphansAreViolations : tblHas (enabled []).txs (pairKey 0x80 0x25) = false := by decide
theorem test_witness_EomackAndAbortDeleteTheirSession :
    tblHas (transmitting []).txs (pairKey 0x80 0x25) = true := by decide
theorem test_witness_DataFrameDroppedOrAppended :
    tblFind (receiving [(pairKey 0x80 0x25, session)] []).rxs (pairKey 0x80 0x25) = some session ∧
      session.buf.length + [(8 : Byte)].length < session.tlen.toNat := by decide
theorem test_witness_DataFrameCompletesItsSession :
    session.tlen.toNat ≤ session.buf.length + [(8 : Byte), 9].length ∧ session.kind = .rts ∧
      isClaimed (receiving [(pairKey 0x80 0x25, session)] [.ok]) 0x25 = true ∧
      nextAborts (receiving [(pairKey 0x80 0x25, session)] [.ok]) = false ∧
      nextAborts (receiving [(pairKey 0x80 0x25, session)] [.err]) = true := by decide
theorem test_witness_ReassemblyDeliversThePayload :
    let e := { session with buf := [] }
    let s := receiving [(pairKey 0x80 0x25, e)] [.ok]
    s.en = true ∧ 9 ≤ (counting 9).length ∧ tblFind s.rxs (pairKey 0x80 0x25) = some e ∧
      e.tlen.toNat = (counting 9).length ∧ e.kind = .rts ∧ isClaimed s 0x25 = true ∧ nextAborts s = false ∧
      isClaimed { s with claimed1 := 0 } 0x25 = false := by decide
theorem test_witness_PaceTickSendsTheOldestFrame :
    { enabled [] with bamq := [frame 0x1CEBFF80 (counting 8)] }.bamq = frame 0x1CEBFF80 (counting 8) :: [] ∧
      (enabled []).en = true ∧ (enabled []).bamq = [] ∧ State.reset.en = false := by decide
theorem test_witness_EmittedFramesByteByByte_err : (enabled [.err]).env.answers = .err :: [] ∧
    nextAborts (enabled [.err]) = true := by decide
theorem test_witness_EmittedFramesByteByByte_ok : (enabled [.ok, .err]).env.answers = .ok :: [.err] ∧
    (enabled []).env.answers = [] := by decide
theorem test_witness_CtrlWriteStartsAndShutsDown : DisabledInv State.reset ∧ State.reset.en = false ∧
    (0x1 : Word).getLsbD 0 = true := by decide
theorem test_witness_TxbufWriteStoresItsLanes :
    0x800 ≤ (0xEF8 : Offset).toNat ∧ (0xEF8 : Offset).toNat % Size.b4.bytes = 0 ∧
      0x800 ≤ (0xFFF : Offset).toNat ∧ (0xFFF : Offset).toNat % Size.b1.bytes = 0 := by decide
theorem test_witness_TxbufReadReturnsItsLanes :
    let s := { State.reset with txbuf := [(1784, 0x11)] }
    (∀ k < Size.b4.bytes, (0xEF8 : Offset).toNat + k - 0x800 < 1785 →
      txbufW s ((0xEF8 : Offset).toNat + k - 0x800) = true) ∧ txbufW s 0 = false := by decide
theorem test_witness_RegisterReadsReturnTheMap : (0x7FC : Offset).toNat < 0x800 ∧ (0x7FC : Offset).toNat % 4 = 0 := by
  decide
/-- A CTS for the transfer in flight, pending. -/
def ctsPending : State :=
  placeInput (.rx (frame 0x1CEC8025 [0x11, 2, 3, 0xFF, 0xFF, 0x00, 0xEF, 0x00])) (transmitting [.ok, .ok])

theorem test_witness_EveryStepKeepsTheInvariant : Inv ctsPending ∧ ∃ t, step ctsPending = .next t :=
  ⟨by decide, _, rfl⟩
theorem test_witness_WhatLeavesThePorts : Inv ctsPending ∧
    field (fun s => s.env.outs.length) (step ctsPending) = some 2 := ⟨by decide, by decide⟩
theorem test_witness_WhatLeavesThePorts_pdu :
    let s := receiving [(pairKey 0x80 0x25, session)] [.ok]
    Inv s ∧ field (fun s => s.env.outs.length)
      (step (placeInput (.rx (frame 0x1CEB2580 [2, 8, 9])) s)) = some 2 := ⟨by decide, by decide⟩
theorem test_witness_StickyBitsStay :
    field (fun s => s.pv) (exec (.wStatus 0x2) { State.reset with pv := true, txerr := true }) = some false ∧
    field (fun s => s.txerr) (exec (.wStatus 0x1) { State.reset with pv := true, txerr := true }) = some false ∧
    field (fun s => s.pvCnt) (exec (.rxEomack 7 0x80 0x25) (enabled [])) = some 1 := by decide
theorem test_witness_OnlyTheseWriteArgId :
    field (fun s => s.argId) (exec (.wCmd 0x1) { State.reset with argSrc := 0x11 }) = some 0x11 ∧
    field (fun s => s.argId) (exec (.wArgId 5) State.reset) = some 5 := by decide
theorem test_witness_WhoChangesThePacedQueue :
    field (fun s => s.bamq.length) (exec .send (sending 0x18FEDA11 (counting 9) [.ok])) = some 2 ∧
    field (fun s => s.bamq.length) (exec .paceTick { enabled [.ok] with bamq := [frame 0x1CEBFF80 (counting 8)] }) =
      some 0 := by decide
theorem test_witness_TxSessionLifetime : tblFind (transmitting []).txs (pairKey 0x80 0x25) = some transfer ∧
    field (fun s => s.txs.length) (exec (.rxEomack 7 0x80 0x25) (transmitting [])) = some 0 ∧
    field (fun s => s.txs.length) (exec (.rxAbort 7 0x25 0x80) (transmitting [])) = some 1 := by decide
theorem test_witness_FaultsAreUnwrittenBytes_converse :
    (let s := { enabled [] with argLen := 1785 }
     isSend .send ∧ s.en = true ∧ s.argLen.toNat ≤ 1785 ∧ 1784 < s.argLen.toNat ∧ txbufW s 1784 = false) ∧
    (1784 < 1785 ∧ (0xEF8 : Offset).toNat ≤ 0x800 + 1784 ∧ 0x800 + 1784 < (0xEF8 : Offset).toNat + Size.b4.bytes) :=
  ⟨⟨.inl rfl, by decide⟩, by decide⟩
theorem test_witness_FaultsAreUnwrittenBytes : faultOf (exec .send { enabled [] with argLen := 1 }) =
    some (.unwrittenTxbuf 0) ∧ faultOf (exec (.rTxbuf 0xEF8 .b1) State.reset) = some (.unwrittenTxbuf 1784) := by decide
theorem test_witness_CombinationalFunctionsAnswer_refusal :
    exec (.segments [1] 0) State.reset = .refused .segmentLengthZero := rfl
theorem test_witness_OtherKeysStayUntouched :
    field (fun s => s.rxs.length) (exec (.rxBam 7 0xFF 0x11 10 2 0x0FEDA) (receiving [(pairKey 0x80 0x25, session)] [])) =
      some 2 ∧ ((0x80 : Byte), (0x25 : Byte)) ≠ (0x11, 0xFF) ∧
    (field (fun s => s.txs.length) (exec (.rxCts 7 0x80 0x26 1 1) (transmitting []))) = some 1 ∧
    ((0x80 : Byte), (0x25 : Byte)) ≠ (0x80, 0x26) := by decide
theorem test_witness_DisabledBlockIsSilent : State.reset.en = false ∧
    field (fun s => s.env.outs.length) (step (placeInput (.cmd 0x3) State.reset)) = some 1 := by decide
theorem test_witness_WhatIsDelivered :
    field (fun s => s.env.outs.length) (exec (.rxPass 0x18FEDA11 []) (enabled [])) = some 1 := by decide
theorem test_witness_BusAndPacerLeaveTheRegisters : isBusOrPacer .paceTick ∧ isBusOrPacer (.rxPass 0x18FEDA11 []) ∧
    ∃ t, exec (.rxPass 0x18FEDA11 []) (enabled []) = .next t :=
  ⟨.inl rfl, .inr ⟨frame 0x18FEDA11 [], by decide⟩, _, rfl⟩
theorem test_witness_OnlyTxbufWritesChangeTxbuf :
    (∃ t, exec .nop State.reset = .next t) ∧ (∀ off size w, Instr.nop ≠ .wTxbuf off size w) ∧ Instr.nop ≠ .reset :=
  ⟨⟨_, rfl⟩, nofun, nofun⟩

end Sys2Proof.Tests
end

section
/-! SUPPORT. The RESET step (70_reset_and_hazards.md R245): what the claimed set, the written marks and IRQ read in the
state it leaves, then the obligation about it. -/

namespace Sys2Proof.Machine

/-- R245: RESET always answers, with the reset block. -/
@[simp] theorem exec_reset (s : State) : exec .reset s = .next (resetBlock s) := rfl

/-- Each of the eight CLAIMED words reads 0 after reset (R57), and so does the word of an index past them (R40). -/
@[simp] theorem claimedWord_resetBlock (s : State) (j : Nat) : claimedWord (resetBlock s) j = 0 := by
  unfold claimedWord
  split <;> rfl

@[simp] theorem isClaimed_resetBlock (s : State) (a : Byte) : isClaimed (resetBlock s) a = false := by
  simp [isClaimed]

@[simp] theorem txbufW_resetBlock (s : State) (i : Nat) : txbufW (resetBlock s) i = false := rfl

/-- Both sticky bits are 0 after reset, so no enable bit matters. -/
@[simp] theorem irq_resetBlock (s : State) : irq (resetBlock s) = false := rfl

/-- Settles O36: RESET leaves `resetBlock s`; its registers, tables and queue are those of `State.reset` as they stand,
the claimed set and the written marks are empty by the lemmas above, and the ports are those of `s`. -/
theorem resetLeavesTheResetValues : Obligations.ResetLeavesTheResetValues := by
  intro s
  refine ⟨resetBlock s, exec_reset s, ?_, irq_resetBlock s, congrArg Env.outs (resetBlock_env s)⟩
  simp [State.reset]

end Sys2Proof.Machine
end

section
/-! SUPPORT. The words a register read returns (20_memory.md R61, R65; 10_state.md R32 to R48; 40_codec.md R124 to R127) as
numbers, one lemma per kind of word, then the obligation about the register map; after it the STATUS and IE writes and IRQ
(R67; 45_sequencer_errors.md R220, R221; 60_exceptions.md R232) with theirs. -/

namespace Sys2Proof.Machine

/-! ### The words with fields of their own -/

/-- Two flags in bits 0 and 1, the format of CTRL and IE (R32, R34). -/
theorem toNat_flagPair (b0 b1 : Bool) :
    ((BitVec.ofBool b1 ++ BitVec.ofBool b0 : BitVec 2).setWidth 32).toNat = b0.toNat + 2 * b1.toNat := by
  rw [BitVec.toNat_setWidth_of_le (by decide), append_toNat, BitVec.toNat_ofBool, BitVec.toNat_ofBool]
  omega

theorem bamqNe_eq (s : State) : bamqNe s = decide (s.bamq ≠ []) := by
  simp [bamqNe, List.length_pos_iff]

/-- STATUS is its two sticky bits and the three flags computed from the queue and the tables (R33). -/
theorem toNat_statusWord (s : State) :
    (statusWord s).toNat = s.txerr.toNat + 2 * s.pv.toNat + 4 * (decide (s.bamq ≠ [])).toNat +
      8 * (decide (s.rxs.length = s.params.nRxSess)).toNat + 16 * (decide (s.txs.length = s.params.nTxSess)).toNat := by
  rw [statusWord, BitVec.toNat_setWidth_of_le (by decide), bamqNe_eq]
  simp only [append_toNat, BitVec.toNat_ofBool, rxsFull, txsFull]
  omega

theorem resultCode_lt (c : ResultCode) : resultCode c < 8 := by cases c <;> decide

/-- ARG_ADDR is its four fields, the reserved bits 0 (R39). -/
theorem toNat_argAddrWord (s : State) :
    (argAddrWord s).toNat = s.argPrio.toNat + 256 * s.argSrc.toNat + 65536 * s.argDest.toNat +
      16777216 * s.argDestPresent.toNat := by
  simp only [argAddrWord, append_toNat, BitVec.toNat_ofBool, BitVec.toNat_ofNat]
  omega

/-- ID_FIELDS shows the PDU1 bit twice, in bits 29 and 30 (R42, R124). -/
theorem toNat_idFieldsWord (s : State) :
    (idFieldsWord s).toNat = s.argId.toNat + 1610612736 * (isPdu1 (idPgn s.argId)).toNat := by
  simp only [idFieldsWord, append_toNat, BitVec.toNat_ofBool, BitVec.toNat_ofNat]
  omega

/-- ID_DEST holds a destination and its valid bit, or nothing (R44, R126). -/
theorem toNat_idDestWord (s : State) :
    (idDestWord s).toNat = if isPdu1 (idPgn s.argId) then 256 + (idPs s.argId).toNat else 0 := by
  cases h : isPdu1 (idPgn s.argId) with
  | false => simp [idDestWord, idDest, h]
  | true =>
    simp only [idDestWord, idDest, h, if_true]
    rw [BitVec.toNat_setWidth_of_le (by decide), append_toNat]
    rfl

/-- PGN_FIELDS shows the PDU1 bit in bit 18 (R45, R127). -/
theorem toNat_pgnFieldsWord (s : State) :
    (pgnFieldsWord s).toNat = s.argPgn.toNat + 262144 * (isPdu1 s.argPgn).toNat := by
  rw [pgnFieldsWord, BitVec.toNat_setWidth_of_le (by decide), append_toNat, BitVec.toNat_ofBool]
  omega

@[simp] theorem toNat_field16 (n : Nat) : (field16 n).toNat = n % 65536 := BitVec.toNat_ofNat _ _

/-- A register of one 16-bit field (R47, R48). -/
theorem toNat_field16Word (n : Nat) : ((field16 n).setWidth 32).toNat = n % 65536 := by
  rw [BitVec.toNat_setWidth_of_le (by decide), toNat_field16]

/-- PARAM0 is its two 16-bit fields (R48). -/
theorem toNat_field16Pair (lo hi : Nat) :
    (field16 hi ++ field16 lo).toNat = lo % 65536 + 65536 * (hi % 65536) := by
  rw [append_toNat, toNat_field16, toNat_field16]
  omega

/-! ### The offsets -/

/-- R65: a register read responds with the word of its offset, and that is all it does. -/
@[simp] theorem exec_rReg (off : Offset) (s : State) :
    exec (.rReg off) s = .next (output (.host { resp := .okay, rdata := some (regWord s off.toNat) }) s) := rfl

/-- The eight CLAIMED words stand at 0x060, one word apart (R61). -/
theorem regWord_claimed (s : State) (j : Nat) (h : j < 8) : regWord s (0x060 + 4 * j) = claimedWord s j := by
  interval_cases j <;> rfl

/-- R40: bit a[4:0] of the word CLAIMED[a[7:5]] says whether address a is claimed. -/
theorem regWord_getLsbD_claimed (s : State) (a : Byte) :
    (regWord s (0x060 + 4 * (a.toNat / 32))).getLsbD (a.toNat % 32) = isClaimed s a := by
  rw [regWord_claimed s _ (Nat.div_lt_of_lt_mul a.isLt), isClaimed]

/-- The RESULT register holds the code's number (R36, R101). -/
theorem toNat_regWord_result (s : State) : (regWord s 0x010).toNat = resultCode s.result :=
  (BitVec.toNat_ofNat _ _).trans (Nat.mod_eq_of_lt ((resultCode_lt s.result).trans (by decide)))

/-- CMD, the gap at 0x03C and every offset past the map read 0 (R65). -/
theorem regWord_reserved (s : State) {off : Nat} (h : off = 0x00C ∨ off = 0x03C ∨ 0x080 ≤ off) : regWord s off = 0 := by
  obtain rfl | rfl | h := h
  · rfl
  · rfl
  · obtain ⟨k, rfl⟩ := Nat.exists_eq_add_of_le' h
    rfl

/-- Settles O46, clause by clause in the order of the map (R61): the word that stands at an offset, as the number the
lemmas above give it. -/
theorem registerReadsReturnTheMap : Obligations.RegisterReadsReturnTheMap := by
  intro s
  have zext {n : Nat} (h : n ≤ 32) (v : BitVec n) : (v.setWidth 32).toNat = v.toNat := BitVec.toNat_setWidth_of_le h
  refine ⟨fun off _ _ => exec_rReg off s,
    toNat_flagPair s.en s.ignTxerr, toNat_statusWord s, toNat_flagPair s.txerrIe s.pvIe, -- CTRL, STATUS, IE
    toNat_regWord_result s, ?resultCodes, -- RESULT
    zext (by decide) s.argId, zext (by decide) s.argPgn, toNat_argAddrWord s, zext (by decide) s.argLen, -- arguments
    toNat_idFieldsWord s, zext (by decide) (idPgn s.argId), zext (by decide) (pgnNumber (idPgn s.argId)),
    toNat_idDestWord s, -- the views of ARG_ID
    toNat_pgnFieldsWord s, zext (by decide) (pgnNumber s.argPgn), -- the views of ARG_PGN
    rfl, rfl, rfl, -- the counters
    toNat_field16Word _, toNat_field16Word _, toNat_field16Word _, -- the occupancies
    toNat_field16Pair _ _, toNat_field16Word _, -- PARAM0, PARAM1
    regWord_getLsbD_claimed s, fun _ => regWord_reserved s⟩
  case resultCodes =>
    intro p hp hs
    rw [toNat_regWord_result, hs]
    clear hs
    revert p hp
    decide

/-! ### STATUS, IE and IRQ -/

/-- R67, R220: a STATUS write clears the sticky bits whose wdata bits are 1. -/
theorem exec_wStatus (w : Word) (s : State) :
    exec (.wStatus w) s = .next (output okayOut
      { s with txerr := s.txerr && !w.getLsbD 0, pv := s.pv && !w.getLsbD 1 }) := rfl

/-- R221: an IE write takes the two enables. -/
theorem exec_wIe (w : Word) (s : State) :
    exec (.wIe w) s = .next (output okayOut { s with txerrIe := w.getLsbD 0, pvIe := w.getLsbD 1 }) := rfl

/-- The two spellings of write 1 to clear: bit `b` of a flag register under bit `c` of the data. -/
theorem and_not_eq_ite (b c : Bool) : (b && !c) = if c = true then false else b := by
  cases c <;> simp

/-- R232: IRQ is up where a sticky bit and its enable are. -/
theorem irq_eq_true_iff (s : State) :
    irq s = true ↔ (s.txerr = true ∧ s.txerrIe = true) ∨ (s.pv = true ∧ s.pvIe = true) := by
  simp [irq]

/-- Settles O40: the two writes and IRQ by their equations, and the clearing of a sticky bit by the value of its
data bit. -/
theorem statusAndEnableWrites : Obligations.StatusAndEnableWrites := by
  intro w s
  refine ⟨?_, exec_wIe w s, irq_eq_true_iff s⟩
  rw [exec_wStatus, and_not_eq_ite, and_not_eq_ite, withOut_eq]

end Sys2Proof.Machine
end

section
/-! SUPPORT. The intake map (30_encoding.md R103 to R105) and the totality of the decoder (R114): the map by its forms
of row, the kind each frame gets, then well-formedness of what the parts of the decoder answer; after them the identifiers
of the TP frames as numbers (R94). -/

namespace Sys2Proof.Machine

/-! ### The rows of the intake map -/

/-- The first row of R103: EXT is 0. -/
def stdRow : IntakeRow := ⟨.std, 0x0000000000, 0x2000000000, .any⟩

/-- The last row of R103: EXT is 1. -/
def passRow : IntakeRow := ⟨.pass, 0x2000000000, 0x2000000000, .any⟩

/-- A row of R103 that reads EXT and the class bits: `c` in bits 25:16 of an extended identifier. -/
def classRow (k : IntakeKind) (c : BitVec 10) (cond : DlcCond) : IntakeRow :=
  ⟨k, 1#1 ++ (0#3 ++ c ++ 0#8 ++ 0#8) ++ 0#8, 0x23FF000000, cond⟩

/-- A row of R103 that reads the control byte too: a TP.CM frame of 8 bytes, the first of them `b` (R104). -/
def ctlRow (k : IntakeKind) (b : Byte) : IntakeRow :=
  ⟨k, 1#1 ++ (0#3 ++ tpCmClass ++ 0#8 ++ 0#8) ++ b, 0x23FF0000FF, .eq8⟩

/-- The patterns of R103 are those of its fields. -/
theorem intakeMap_eq : intakeMap =
    [stdRow, classRow .cmBadlen tpCmClass .ne8,
     ctlRow .rts ctlRts, ctlRow .cts ctlCts, ctlRow .eomack ctlEomack, ctlRow .bam ctlBam, ctlRow .abort ctlAbort,
     classRow .cmOther tpCmClass .eq8, classRow .dt tpDtClass .any, passRow] := by
  decide

@[simp] theorem stdRow_kind : stdRow.kind = .std := rfl

@[simp] theorem passRow_kind : passRow.kind = .pass := rfl

@[simp] theorem classRow_kind (k : IntakeKind) (c : BitVec 10) (cond : DlcCond) : (classRow k c cond).kind = k := rfl

@[simp] theorem ctlRow_kind (k : IntakeKind) (b : Byte) : (ctlRow k b).kind = k := rfl

@[simp] theorem rowMatches_stdRow (f : Frame) : rowMatches f stdRow = !f.ext :=
  (Bool.and_true _).trans (row_std f)

@[simp] theorem rowMatches_passRow (f : Frame) : rowMatches f passRow = f.ext :=
  (Bool.and_true _).trans (row_ext f)

@[simp] theorem rowMatches_classRow (f : Frame) (k : IntakeKind) (c : BitVec 10) (cond : DlcCond) :
    rowMatches f (classRow k c cond) = (f.ext && decide (idClass f.id = c) && cond.holds f.data.length) :=
  congrArg (· && _) (row_class f c)

@[simp] theorem rowMatches_ctlRow (f : Frame) (k : IntakeKind) (b : Byte) :
    rowMatches f (ctlRow k b) =
      (f.ext && decide (idClass f.id = tpCmClass) && decide (f.data.getD 0 0 = b) && f.data.length == 8) :=
  congrArg (· && _) (row_byte f tpCmClass b)

/-! ### Which row classifies a frame -/

/-- The kind of the first of some rows that matches (R103), `pass` where none does. -/
def firstKind (f : Frame) (rows : List IntakeRow) : IntakeKind := ((rows.find? (rowMatches f)).map (·.kind)).getD .pass

theorem classify_eq_firstKind (f : Frame) : classify f = firstKind f intakeMap := by
  unfold classify firstKind
  cases intakeMap.find? (rowMatches f) <;> rfl

@[simp] theorem firstKind_nil (f : Frame) : firstKind f [] = .pass := rfl

@[simp] theorem firstKind_cons (f : Frame) (r : IntakeRow) (rows : List IntakeRow) :
    firstKind f (r :: rows) = if rowMatches f r then r.kind else firstKind f rows := by
  unfold firstKind
  cases h : rowMatches f r <;> simp [h]

/-- Settles O4: the ten rows tried in order, by EXT, then the class bits, then the dlc; the control bytes are then tried in
the same order on both sides. -/
theorem intakeMapClassifiesFrames : Obligations.IntakeMapClassifiesFrames := by
  intro f
  rw [classify_eq_firstKind, intakeMap_eq]
  cases hext : f.ext with
  | false => simp [hext]
  | true =>
    by_cases hcm : idClass f.id = tpCmClass
    · by_cases hlen : f.data.length = 8 <;> simp [hext, hcm, hlen, DlcCond.holds]
    · by_cases hdt : idClass f.id = tpDtClass
      · simp [hext, hdt, DlcCond.holds]
      · simp_all

/-- A TP.CM frame of another dlc than 8 (R105). -/
theorem length_ne_of_classify_cmBadlen {f : Frame} (h : classify f = .cmBadlen) : f.data.length ≠ 8 := by
  intro hlen
  rw [intakeMapClassifiesFrames f] at h
  split_ifs at h
  contradiction

/-- A TP.CM frame left to the last of its rows has none of the control bytes of R104. -/
theorem knownCtl_of_classify_cmOther {f : Frame} (h : classify f = .cmOther) : knownCtl (byteAt f 0) = false := by
  rw [intakeMapClassifiesFrames f] at h
  split_ifs at h with _ _ _ hrts hcts heom hbam habort
  simp only [knownCtl, byteAt, Bool.or_eq_false_iff, beq_eq_false_iff_ne]
  exact ⟨⟨⟨⟨hrts, hcts⟩, heom⟩, hbam⟩, habort⟩

/-- A frame left to the last row is of neither TP class. -/
theorem idClass_of_classify_pass {f : Frame} (h : classify f = .pass) :
    idClass f.id ≠ tpCmClass ∧ idClass f.id ≠ tpDtClass := by
  rw [intakeMapClassifiesFrames f] at h
  split_ifs at h with _ hcm _ _ _ _ _ _ hdt
  exact ⟨hcm, hdt⟩

/-! ### Well-formedness of what is decoded -/

/-- A frame of a port gives a well-formed instruction: its row's condition is the one its operands need. -/
theorem wellFormed_frameInstr {f : Frame} (hlen : f.data.length ≤ 8) :
    (frameInstr f (classify f)).wellFormed = true := by
  cases h : classify f with
  | std => exact decide_eq_true hlen
  | cmBadlen => exact decide_eq_true (Nat.lt_of_le_of_ne hlen (length_ne_of_classify_cmBadlen h))
  | cmOther => exact congrArg (!·) (knownCtl_of_classify_cmOther h)
  | dt => exact decide_eq_true hlen
  | pass => exact decide_eq_true ⟨hlen, idClass_of_classify_pass h⟩
  | rts | cts | eomack | bam | abort => rfl

/-- R22: a frame the port carries is none of the two kinds of record the decoder rejects. -/
theorem decodeFrame_of_onPort {f : Frame} (h : f.OnPort) : decodeFrame f = .ok (frameInstr f (classify f)) := by
  obtain ⟨hlen, hid⟩ := h
  have hstd : ¬ (f.ext = false ∧ 0x800 ≤ f.id.toNat) := fun ⟨hext, hle⟩ => Nat.not_le_of_lt (hid hext) hle
  rw [decodeFrame, if_neg (Nat.not_lt_of_le hlen), if_neg hstd]

/-- R99: every OPC is a command, reserved included. -/
theorem wellFormed_decodeOpc (n : Nat) : (decodeOpc n).wellFormed = true := by
  unfold decodeOpc
  split <;> rfl

/-- R61: a legal register write at an offset of no row is the row of the other registers. -/
theorem wellFormed_decodeRegWrite {off : Offset} (w : Word) (hreg : off.toNat < 0x800)
    (hlegal : accessLegal off .b4 = true) : (decodeRegWrite off w).wellFormed = true := by
  unfold decodeRegWrite
  split
  case h_20 => -- no row's offset: `off` is not in `writableOffsets`
    simp_all [Instr.wellFormed, writableOffsets]
  all_goals rfl

theorem size_eq_b4_of_accessLegal {off : Offset} {size : Size} (hreg : off.toNat < 0x800)
    (hlegal : accessLegal off size = true) : size = .b4 := by
  rw [accessLegal, if_pos hreg] at hlegal
  exact (of_decide_eq_true hlegal).1

/-- R62, R63: every host access has its row: illegal, a register's, or TXBUF's. -/
theorem wellFormed_decodeAccess (a : Access) : (decodeAccess a).wellFormed = true := by
  obtain ⟨dir, off, size, w⟩ := a
  cases hlegal : accessLegal off size with
  | false => simp [decodeAccess, Instr.wellFormed, hlegal]
  | true =>
    by_cases hreg : off.toNat < 0x800
    · obtain rfl := size_eq_b4_of_accessLegal hreg hlegal
      cases dir with
      | read => simp [decodeAccess, Instr.wellFormed, hlegal, hreg]
      | write => simpa [decodeAccess, hlegal, hreg] using wellFormed_decodeRegWrite w hreg hlegal
    · cases dir <;> simp [decodeAccess, Instr.wellFormed, hlegal, hreg, Nat.le_of_not_lt hreg]

/-- Settles O3, by the kind of the input: a command's OPC, a host access and a frame by the lemmas above. -/
theorem everyPortRecordDecodes : Obligations.EveryPortRecordDecodes := by
  have hcmd (w : Word) : ∃ i, decode (.cmd w) = .ok i ∧ i.wellFormed = true := ⟨_, rfl, wellFormed_decodeOpc _⟩
  refine ⟨hcmd, fun x hx => ?_⟩
  cases x with
  | host a => exact ⟨_, rfl, wellFormed_decodeAccess a⟩
  | cmd w => exact hcmd w
  | rx f =>
    have hport : f.OnPort := of_decide_eq_true hx
    exact ⟨_, decodeFrame_of_onPort hport, wellFormed_frameInstr hport.1⟩
  | pace => exact ⟨_, rfl, rfl⟩
  | rst => exact ⟨_, rfl, rfl⟩

/-! ### Identifiers as numbers -/

/-- R120: the layout of an identifier. -/
theorem toNat_idPack (p : Prio) (v : Pgn) (sa : Byte) :
    (idPack p v sa).toNat = 67108864 * p.toNat + 256 * v.toNat + sa.toNat := by
  rw [idPack, append_toNat, append_toNat]
  omega

/-- R94: the PS byte of a PGN replaced. -/
theorem toNat_pgnWithPs (v : Pgn) (d : Byte) : (pgnWithPs v d).toNat = v.toNat / 256 * 256 + d.toNat := by
  have hclass : (v.extractLsb' 8 10).toNat = v.toNat / 256 := by
    rw [BitVec.extractLsb'_toNat, Nat.shiftRight_eq_div_pow]
    exact Nat.mod_eq_of_lt (Nat.div_lt_of_lt_mul v.isLt)
  rw [pgnWithPs, append_toNat, hclass, show 2 ^ 8 = 256 from rfl]

/-- The identifier of a TP frame: TP_PRIO, then the class bits of its PGN, the destination and the source (R9, R94). -/
theorem toNat_tpId (base : Pgn) (d s : Byte) :
    (tpId base d s).toNat = 0x1C000000 + 256 * (base.toNat / 256 * 256) + 256 * d.toNat + s.toNat := by
  rw [tpId, toNat_idPack, toNat_pgnWithPs, show tpPrio.toNat = 7 from rfl]
  omega

/-- Settles O13, by the values of the two PGNs (R7). -/
theorem tpFrameIdentifiers : Obligations.TpFrameIdentifiers :=
  fun d s => ⟨toNat_tpId pgnTpCm d s, toNat_tpId pgnTpDt d s⟩

end Sys2Proof.Machine
end

section
/-! SUPPORT. The codec of PGNs and identifiers (40_codec.md R116 to R123, R130): layouts as numbers, the round trips and what
a replaced PS byte keeps, each with its obligation; then the two commands that write ARG_ID (R128, R129). -/

namespace Sys2Proof.Machine

/-! ### PGNs -/

/-- R116: the layout of a PGN. -/
theorem toNat_pgnPack (r dp : Bool) (pf ps : Byte) :
    (pgnPack r dp pf ps).toNat = 131072 * r.toNat + 65536 * dp.toNat + 256 * pf.toNat + ps.toNat := by
  simp only [pgnPack, append_toNat, BitVec.toNat_ofBool]
  omega

/-- Settles O8: the layout as a number, then R117 undoes R116 and R116 undoes R117. -/
theorem pgnPackAndFields : Obligations.PgnPackAndFields :=
  ⟨fun r dp pf ps => ⟨toNat_pgnPack r dp pf ps, pgnPack_fields r dp pf ps⟩, pgn_eq_fields⟩

/-- R118, on the fields of a PGN. -/
theorem isPdu1_iff (v : Pgn) : isPdu1 v = true ↔ (pgnPf v).toNat < 240 ∨ pgnR v = true ∨ pgnDp v = true := by
  simp only [isPdu1, Bool.or_eq_true, decide_eq_true_iff, or_assoc]

/-- Settles O9: the classifier reads the fields, and packing keeps them. -/
theorem pdu1Classification : Obligations.Pdu1Classification := by
  intro r dp pf ps
  obtain ⟨hr, hdp, hpf, -⟩ := pgnPack_fields r dp pf ps
  rw [isPdu1_iff, hr, hdp, hpf]

theorem pgnNumber_of_pdu1 {v : Pgn} (h : isPdu1 v = true) : pgnNumber v = pgnWithPs v 0 := if_pos h

theorem pgnNumber_of_pdu2 {v : Pgn} (h : isPdu1 v = false) : pgnNumber v = v := by
  simp only [pgnNumber, h, Bool.false_eq_true, if_false]

/-- Of two replacements of the PS byte the last one stands. -/
theorem pgnWithPs_pgnWithPs (v : Pgn) (d e : Byte) : pgnWithPs (pgnWithPs v d) e = pgnWithPs v e := by
  simp only [pgnWithPs, BitVec.extractLsb'_append_eq_left]

/-- R119: the broadcast form is its own broadcast form. -/
theorem pgnNumber_pgnNumber (v : Pgn) : pgnNumber (pgnNumber v) = pgnNumber v := by
  cases h : isPdu1 v with
  | true =>
    have h' : isPdu1 (pgnWithPs v 0) = true := (isPdu1_pgnWithPs v 0).trans h
    rw [pgnNumber_of_pdu1 h, pgnNumber_of_pdu1 h', pgnWithPs_pgnWithPs]
  | false => rw [pgnNumber_of_pdu2 h, pgnNumber_of_pdu2 h]

/-- Settles O10, by the two classes; a PS byte of 0 leaves the multiple of 256 below the PGN. -/
theorem broadcastFormPgn : Obligations.BroadcastFormPgn := by
  refine fun v => ⟨fun h => ?_, pgnNumber_of_pdu2, isPdu1_pgnNumber v, pgnNumber_pgnNumber v⟩
  rw [pgnNumber_of_pdu1 h, toNat_pgnWithPs]
  exact Nat.add_zero _

/-! ### Identifiers -/

/-- An identifier's PGN is its class bits and its PS byte (R102, R121). -/
theorem idPgn_eq_append (id : CanId) : idPgn id = idClass id ++ idPs id :=
  (BitVec.extractLsb'_append_extractLsb'_eq_extractLsb' (start₂ := 16) (start₁ := 8) (len₂ := 10) (len₁ := 8) rfl).symm

/-- R120 undoes R121. -/
theorem idPack_eq_self (id : CanId) : idPack (idPrio id) (idPgn id) (idSa id) = id := by
  refine BitVec.eq_of_toNat_eq ?_
  simp only [toNat_idPack, idPrio, idPgn, idSa, BitVec.extractLsb'_toNat, Nat.shiftRight_eq_div_pow]
  omega

/-- R122: the destination of a packed identifier is its PGN's PS byte, under PDU1. -/
theorem idDest_idPack (p : Prio) (v : Pgn) (sa : Byte) :
    idDest (idPack p v sa) = if isPdu1 v then some (pgnPs v) else none := by
  obtain ⟨-, hpgn, -, hps⟩ := idPack_fields p v sa
  rw [idDest, hpgn, hps]

/-- Settles O11: the layout as a number, the fields and the destination of a packed identifier, and the way back. -/
theorem arbitrationIdRoundTrip : Obligations.ArbitrationIdRoundTrip := by
  refine ⟨fun p v sa => ?_, idPack_eq_self⟩
  obtain ⟨hprio, hpgn, hsa, -⟩ := idPack_fields p v sa
  exact ⟨toNat_idPack p v sa, hprio, hpgn, hsa, idDest_idPack p v sa⟩

/-- R130: the identifier built from the old fields, with `d` for the PS byte. -/
theorem withDest_eq_rxId (id : CanId) (d : Byte) : withDest id d = rxId (idPrio id) (idClass id) d (idSa id) := by
  have htop : idPrio id ++ idClass id = id.extractLsb' 16 13 :=
    BitVec.extractLsb'_append_extractLsb'_eq_extractLsb' rfl
  rw [withDest, rxId, htop]

/-- Replacing an identifier's PS byte replaces its PGN's. -/
theorem idPgn_withDest (id : CanId) (d : Byte) : idPgn (withDest id d) = pgnWithPs (idPgn id) d := by
  obtain ⟨-, hclass, hps, -⟩ := rxId_fields (idPrio id) (idClass id) d (idSa id)
  rw [idPgn_eq_append, withDest_eq_rxId, hclass, hps, pgnWithPs, idPgn_eq_append id, BitVec.extractLsb'_append_eq_left]

/-- Settles O12: the fields are those it is built from, and the class of a PGN does not read its PS byte. -/
theorem withDestReplacesPsOnly : Obligations.WithDestReplacesPsOnly := by
  intro id d
  obtain ⟨hprio, hclass, hps, hsa⟩ := rxId_fields (idPrio id) (idClass id) d (idSa id)
  rw [← withDest_eq_rxId] at hprio hclass hps hsa
  exact ⟨hps, hprio, hclass, hsa, by rw [idPgn_withDest, isPdu1_pgnWithPs]⟩

/-! ### BUILD_ID and SET_DEST -/

/-- R128: BUILD_ID responds OKAY with what `buildId` makes of the state. -/
theorem exec_buildId (s : State) : exec .buildId s = .next (withOut okayOut (buildId s)) := rfl

/-- R129: SET_DEST responds OKAY with what `setDest` makes of the state. -/
theorem exec_setDest (s : State) : exec .setDest s = .next (withOut okayOut (setDest s)) := rfl

/-- Settles O19: `RESULT <- c` is the update of that field in either case. -/
theorem buildIdResult : Obligations.BuildIdResult := by
  intro s
  rw [exec_buildId, buildId]
  rfl

/-- Settles O20, as O19. -/
theorem setDestResult : Obligations.SetDestResult := by
  intro s
  rw [exec_setDest, setDest]
  rfl

end Sys2Proof.Machine
end

section
/-! SUPPORT. Segmentation (41_pdu_segmentation.md R136 to R141): the padded payload, the chunks of a sequence and the
segments of a padded payload, each with its obligation. -/

namespace Sys2Proof.Machine

/-! ### Padding -/

/-- R138: a padded payload begins with the payload. -/
theorem prefix_tpPad (p : List Byte) : p <+: tpPad p := List.prefix_append _ _

/-- R138: what follows the payload is pad bytes. -/
theorem drop_tpPad (p : List Byte) :
    (tpPad p).drop p.length = List.replicate (segSize * nseg p.length - p.length) padByte := List.drop_left

/-- Settles O15: the two bounds are those of a division by 7, the padding is read off its replicated byte. -/
theorem paddingToWholeSegments : Obligations.PaddingToWholeSegments := by
  refine ⟨fun len => ?ceiling, fun len h9 h1785 => ?range, fun p =>
    ⟨length_tpPad p, prefix_tpPad p, fun b hb => ?pad⟩⟩
  case ceiling =>
    rw [nseg_eq]
    omega
  case range =>
    rw [nseg_eq]
    omega
  case pad =>
    rw [drop_tpPad] at hb
    exact List.eq_of_mem_replicate hb

/-! ### Chunks -/

/-- R136: chunk `i` is one of the chunks of a sequence of `len` bytes where its first byte is a byte of it. -/
theorem lt_chunkCount_iff {len n i : Nat} (hn : 1 ≤ n) : i < (len + n - 1) / n ↔ n * i < len := by
  rw [← Nat.ceilDiv_eq_add_pred_div, ← not_le, ceilDiv_le_iff_le_mul hn, not_le]

theorem length_segments (bytes : List Byte) (n : Nat) :
    (segments bytes n).length = (bytes.length + n - 1) / n := by
  rw [segments, List.length_map, List.length_range]

/-- R136: the chunks, joined, are the sequence: no byte of it lies past the last chunk. -/
theorem flatten_segments (bytes : List Byte) {n : Nat} (hn : 1 ≤ n) : (segments bytes n).flatten = bytes := by
  have hall : bytes.length ≤ n * ((bytes.length + n - 1) / n) :=
    Nat.le_of_not_lt fun h => Nat.lt_irrefl _ ((lt_chunkCount_iff hn).2 h)
  rw [segments, flatten_chunks, List.take_of_length_le hall]

/-- R136: every chunk holds a byte and at most `n`. -/
theorem length_of_mem_segments {bytes c : List Byte} {n : Nat} (hn : 1 ≤ n) (hc : c ∈ segments bytes n) :
    1 ≤ c.length ∧ c.length ≤ n := by
  obtain ⟨i, hi, rfl⟩ := List.mem_map.1 hc
  have hfirst : n * i < bytes.length := (lt_chunkCount_iff hn).1 (List.mem_range.1 hi)
  rw [List.length_take, List.length_drop]
  omega

/-- An index before the last has a successor in the range. -/
theorem succ_lt_of_mem_dropLast_range {i k : Nat} (hi : i ∈ (List.range k).dropLast) : i + 1 < k := by
  rw [List.dropLast_eq_take, List.take_range, List.mem_range, List.length_range] at hi
  omega

/-- R136: a chunk that another one follows is full, for the bytes of the next begin where it ends. -/
theorem length_of_mem_dropLast_segments {bytes c : List Byte} {n : Nat} (hn : 1 ≤ n)
    (hc : c ∈ (segments bytes n).dropLast) : c.length = n := by
  rw [segments, ← List.map_dropLast] at hc
  obtain ⟨i, hi, rfl⟩ := List.mem_map.1 hc
  have hnext : n * (i + 1) < bytes.length := (lt_chunkCount_iff hn).1 (succ_lt_of_mem_dropLast_range hi)
  rw [Nat.mul_add_one] at hnext
  rw [List.length_take, List.length_drop]
  omega

/-! ### Segments of a padded payload -/

/-- R139: a padded payload has `nseg` chunks of 7 bytes. -/
theorem segments_tpPad (p : List Byte) :
    segments (tpPad p) 7 = (List.range (nseg p.length)).map fun i => ((tpPad p).drop (7 * i)).take 7 := by
  have hcount : (7 * nseg p.length + 7 - 1) / 7 = nseg p.length := by omega
  rw [segments, length_tpPad, hcount]

/-- R93, R139: segment `i + 1` is chunk `i`. -/
theorem segment_succ (i : Nat) (q : List Byte) : Machine.segment (i + 1) q = (q.drop (7 * i)).take 7 := rfl

/-- R93: the bytes of a TP.DT frame after its sequence byte are the segment. -/
theorem drop_one_dtData (k : Nat) (q : List Byte) : (dtData k q).drop 1 = Machine.segment k q := rfl

/-- Settles O16: the rules of the chunks, then those of the segments. -/
theorem segmentsCutTheSequence : Obligations.SegmentsCutTheSequence :=
  ⟨fun bytes _ hn => ⟨flatten_segments bytes hn, length_segments bytes _,
      fun _ => length_of_mem_dropLast_segments hn, fun _ => length_of_mem_segments hn⟩,
    fun p => ⟨segments_tpPad p, fun _ hi => ⟨length_segment_tpPad hi, rfl⟩⟩⟩

/-- R141: the data of the TP.DT frames of a payload, joined, are the padded payload. -/
theorem flatMap_dtData_tpPad (p : List Byte) :
    ((List.range (nseg p.length)).flatMap fun i => (dtData (i + 1) (tpPad p)).drop 1) = tpPad p := by
  simp only [drop_one_dtData, segment_succ, List.flatMap_def]
  rw [← segments_tpPad, flatten_segments _ (by decide)]

/-- Settles O17: the joined segments are the padded payload, and that begins with the payload. -/
theorem segmentationRoundTrip : Obligations.SegmentationRoundTrip := by
  intro p _ _
  rw [flatMap_dtData_tpPad]
  exact (List.prefix_iff_eq_take.1 (prefix_tpPad p)).symm

end Sys2Proof.Machine
end

section
/-! SUPPORT. The steps of the bus and the pacer (42_frame_intake.md R145 to R152; 45_sequencer_errors.md R205): each is one
operation under EN, stated once per instruction; then the obligations about a disabled block and about the frames the TP
state machine does not act on. -/

namespace Sys2Proof.Machine

/-! ### What each frame and the tick do -/

theorem exec_rxStd (id : BitVec 11) (data : List Byte) (s : State) :
    exec (.rxStd id data) s = whenEnabled s countDrop := rfl

theorem exec_rxCmBadlen (prio : Prio) (dst src : Byte) (data : List Byte) (s : State) :
    exec (.rxCmBadlen prio dst src data) s = whenEnabled s countPv := rfl

theorem exec_rxRts (prio : Prio) (dst src : Byte) (tlen : BitVec 16) (tseg : Byte) (pgn : Pgn) (s : State) :
    exec (.rxRts prio dst src tlen tseg pgn) s = whenEnabled s (handleRts prio dst src tlen tseg pgn) := rfl

theorem exec_rxCts (prio : Prio) (dst src count start : Byte) (s : State) :
    exec (.rxCts prio dst src count start) s = whenEnabled s (handleCts dst src count start) := rfl

theorem exec_rxEomack (prio : Prio) (dst src : Byte) (s : State) :
    exec (.rxEomack prio dst src) s = whenEnabled s (handleEomack dst src) := rfl

theorem exec_rxBam (prio : Prio) (dst src : Byte) (tlen : BitVec 16) (tseg : Byte) (pgn : Pgn) (s : State) :
    exec (.rxBam prio dst src tlen tseg pgn) s = whenEnabled s (handleBam prio dst src tlen tseg pgn) := rfl

theorem exec_rxAbort (prio : Prio) (dst src : Byte) (s : State) :
    exec (.rxAbort prio dst src) s = whenEnabled s (handleAbort dst src) := rfl

theorem exec_rxCmOther (prio : Prio) (dst src ctl : Byte) (s : State) :
    exec (.rxCmOther prio dst src ctl) s = whenEnabled s countPv := rfl

theorem exec_rxDt (prio : Prio) (dst src : Byte) (data : List Byte) (s : State) :
    exec (.rxDt prio dst src data) s = whenEnabled s (handleDt dst src data) := rfl

theorem exec_rxPass (id : CanId) (data : List Byte) (s : State) :
    exec (.rxPass id data) s =
      whenEnabled s (deliver { kind := .frame, id := id, len := data.length, data := data }) := rfl

theorem exec_paceTick (s : State) : exec .paceTick s = whenEnabled s tick := rfl

/-! ### One operation under EN -/

/-- R145: what a frame decodes to is the instruction of its kind. -/
theorem eq_frameInstr_of_decode {f : Frame} {i : Instr} (h : decode (.rx f) = .ok i) :
    i = frameInstr f (classify f) := by
  change decodeFrame f = .ok i at h
  unfold decodeFrame at h
  split_ifs at h
  cases h
  rfl

/-- R146: a frame of any kind is one operation under EN. -/
theorem exec_frameInstr_eq_whenEnabled (f : Frame) (k : IntakeKind) :
    ∃ op : State → State, ∀ s, exec (frameInstr f k) s = whenEnabled s op := by
  cases k with
  | std => exact ⟨_, exec_rxStd _ _⟩
  | cmBadlen => exact ⟨_, exec_rxCmBadlen _ _ _ _⟩
  | rts => exact ⟨_, exec_rxRts _ _ _ _ _ _⟩
  | cts => exact ⟨_, exec_rxCts _ _ _ _ _⟩
  | eomack => exact ⟨_, exec_rxEomack _ _ _⟩
  | bam => exact ⟨_, exec_rxBam _ _ _ _ _ _⟩
  | abort => exact ⟨_, exec_rxAbort _ _ _⟩
  | cmOther => exact ⟨_, exec_rxCmOther _ _ _ _⟩
  | dt => exact ⟨_, exec_rxDt _ _ _ _⟩
  | pass => exact ⟨_, exec_rxPass _ _⟩

/-- R146, R205: so is every step of the bus and the pacer. -/
theorem exec_eq_whenEnabled_of_isBusOrPacer {i : Instr} (h : isBusOrPacer i) :
    ∃ op : State → State, ∀ s, exec i s = whenEnabled s op := by
  obtain rfl | ⟨f, hf⟩ := h
  · exact ⟨tick, exec_paceTick⟩
  · rw [eq_frameInstr_of_decode hf]
    exact exec_frameInstr_eq_whenEnabled f (classify f)

/-- Settles O25: a disabled block does not perform the operation. -/
theorem disabledBlockIgnoresFramesAndTicks : Obligations.DisabledBlockIgnoresFramesAndTicks := by
  intro i s hi hoff
  obtain ⟨op, hop⟩ := exec_eq_whenEnabled_of_isBusOrPacer hi
  rw [hop, whenEnabled_off hoff]

/-- Settles O26: an enabled block performs it, and the operation is `countDrop`, `countPv` or `deliver`. -/
theorem droppedAndPassedFrames : Obligations.DroppedAndPassedFrames := by
  intro s hon
  refine ⟨fun id data => ?std, fun prio dst src data => ?badlen, fun prio dst src ctl => ?other, fun id data => ?pass⟩
  case std => rw [exec_rxStd, whenEnabled_on hon, countDrop]
  case badlen => rw [exec_rxCmBadlen, whenEnabled_on hon, countPv]
  case other => rw [exec_rxCmOther, whenEnabled_on hon, countPv]
  case pass => rw [exec_rxPass, whenEnabled_on hon, deliver_eq, withOut_eq]

end Sys2Proof.Machine
end

section
/-! SUPPORT. TP transmit (43_tp_transmit.md R155 to R173): the checks of SEND and its three paths, each path as one
equation; then the frames that end or orphan a session, and what a window granted by a CTS puts on the bus. -/

namespace Sys2Proof.Machine

/-! ### The checks of SEND -/

theorem exec_send (s : State) : exec .send s = execSend s := rfl

/-- R156: a disabled block refuses. -/
theorem exec_send_of_disabled {s : State} (hoff : s.en = false) :
    exec .send s = .next (withOut okayOut (setResult .disabled s)) := by
  rw [exec_send, execSend, if_pos hoff, respondWrite_eq, withOut_eq]

/-- R156: past EN, a length over 1785 is refused. -/
theorem exec_send_of_tooLarge {s : State} (hon : s.en = true) (hlen : 1785 < s.argLen.toNat) :
    exec .send s = .next (withOut okayOut (setResult .dataTooLarge s)) := by
  rw [exec_send, execSend, if_neg (by simp [hon]), if_pos hlen, respondWrite_eq, withOut_eq]

/-- R156, R231: the lowest unwritten byte stops the step. -/
theorem exec_send_of_unwritten {s : State} {i : Nat} (hon : s.en = true) (hlen : s.argLen.toNat ≤ 1785)
    (hi : i < s.argLen.toNat) (hw : txbufW s i = false) (hlow : ∀ j < i, txbufW s j = true) :
    exec .send s = .fault (.unwrittenTxbuf i) := by
  have hread : readTxbuf s 0 s.argLen.toNat = .error i :=
    readTxbuf_error.2 ⟨Nat.zero_le i, by omega, tblHas_eq_false.1 hw, fun k _ hk => hlow k hk⟩
  rw [exec_send, execSend, if_neg (by simp [hon]), if_neg (Nat.not_lt.2 hlen), hread]

/-- R156: past the checks, a written payload is sent on its path. -/
theorem exec_send_of_written {s : State} {p : List Byte} (hon : s.en = true) (hlen : s.argLen.toNat = p.length)
    (hmax : p.length ≤ 1785) (hp : ∀ i : Nat, i < p.length → txbufByte s i = p[i]?) :
    exec .send s = .next (withOut okayOut (sendPayload p s)) := by
  have hread : readTxbuf s 0 p.length = .ok p := readTxbuf_ok fun j hj => by rw [Nat.zero_add, hp j hj]
  rw [exec_send, execSend, if_neg (by simp [hon]), hlen, if_neg (Nat.not_lt.2 hmax), hread]
  rfl

/-- R49: where every byte of TXBUF[0..n) is written, those bytes are a payload. -/
theorem exists_payload_of_written {s : State} {n : Nat} (h : ∀ i < n, txbufW s i = true) :
    ∃ p : List Byte, p.length = n ∧ ∀ i : Nat, i < p.length → txbufByte s i = p[i]? := by
  refine ⟨(List.range n).map fun i => (txbufByte s i).getD 0, by simp, fun i hi => ?_⟩
  have hn : i < n := by simpa using hi
  obtain ⟨b, hb⟩ : ∃ b, txbufByte s i = some b := tblHas_eq_true.1 (h i hn)
  simp [hn, hb]

/-- Settles O21: one lemma for each of the four outcomes. -/
theorem sendChecksInOrder : Obligations.SendChecksInOrder := by
  refine fun s => ⟨exec_send_of_disabled, exec_send_of_tooLarge, fun i => exec_send_of_unwritten,
    fun hon hmax hw => ?_⟩
  obtain ⟨p, hlen, hp⟩ := exists_payload_of_written hw
  exact ⟨p, hlen, hp, exec_send_of_written hon hlen.symm (hlen ▸ hmax) hp⟩

/-! ### The paths of SEND -/

/-- R157: the path of at most 8 bytes. -/
theorem sendPayload_of_short {p : List Byte} (h : p.length ≤ 8) (s : State) : sendPayload p s = sendShort p s :=
  if_pos h

/-- R158: the path of a longer payload with a PDU1 identifier whose destination is one node. -/
theorem sendPayload_of_rtsPath {p : List Byte} {s : State} (h : 9 ≤ p.length) (hpath : rtsPath s.argId = true) :
    sendPayload p s = sendRts p s := by
  rw [sendPayload, if_neg (by simp only [shortMax]; omega), if_pos hpath]

/-- R158: the path of every other longer payload. -/
theorem sendPayload_of_bamPath {p : List Byte} {s : State} (h : 9 ≤ p.length) (hpath : rtsPath s.argId = false) :
    sendPayload p s = sendBam p s := by
  rw [sendPayload, if_neg (by simp only [shortMax]; omega), if_neg (by simp [hpath])]

theorem rtsPath_eq_true {id : CanId} : rtsPath id = true ↔ isPdu1 (idPgn id) = true ∧ idPs id ≠ 0xFF := by
  simp [rtsPath]

theorem rtsPath_eq_false {id : CanId} : rtsPath id = false ↔ isPdu1 (idPgn id) = false ∨ idPs id = 0xFF := by
  simp [rtsPath, imp_iff_not_or]

/-- Settles O22: the payload takes the short path. -/
theorem sendSingleFrame : Obligations.SendSingleFrame := by
  intro s p hon hlen h8 hp
  rw [exec_send_of_written hon hlen (by omega) hp, sendPayload_of_short h8, sendShort_eq, frame]

/-- R96: the low byte of a length. -/
theorem extractLsb'_ofNat_low (n : Nat) : (BitVec.ofNat 16 n).extractLsb' 0 8 = BitVec.ofNat 8 n := by
  refine BitVec.eq_of_toNat_eq ?_
  simp only [BitVec.extractLsb'_toNat, BitVec.toNat_ofNat, Nat.shiftRight_eq_div_pow]
  omega

/-- R96: the high byte of a length. -/
theorem extractLsb'_ofNat_high (n : Nat) : (BitVec.ofNat 16 n).extractLsb' 8 8 = BitVec.ofNat 8 (n / 256) := by
  refine BitVec.eq_of_toNat_eq ?_
  simp only [BitVec.extractLsb'_toNat, BitVec.toNat_ofNat, Nat.shiftRight_eq_div_pow]
  omega

/-- R90, R95, R96: the data of an announcement, byte by byte, from a payload's length. -/
theorem cmData_ofNat (type : Byte) (n : Nat) (k : Byte) (pgn : Pgn) :
    cmData type (BitVec.ofNat 16 n) k pgn =
      [type, BitVec.ofNat 8 n, BitVec.ofNat 8 (n / 256), k, 0xFF,
       pgn.extractLsb' 0 8, pgn.extractLsb' 8 8, (pgn.extractLsb' 16 2).setWidth 8] := by
  rw [cmData, extractLsb'_ofNat_low, extractLsb'_ofNat_high]
  rfl

/-- Discarding a duplicate touches nothing that the next emission reads (R159). -/
theorem nextAborts_dropDuplicate (k : Nat) (s : State) : nextAborts (dropDuplicate k s) = nextAborts s := by
  rw [dropDuplicate_frame]
  rfl

theorem params_dropDuplicate (k : Nat) (s : State) : (dropDuplicate k s).params = s.params := by
  rw [dropDuplicate_frame]

/-- R159 to R162, as one equation over the state without the duplicate. -/
theorem sendRts_eq (p : List Byte) (s : State) :
    sendRts p s =
      let key := pairKey (idSa s.argId) (idPs s.argId)
      let s1 := dropDuplicate key s
      if s1.txs.length = s.params.nTxSess then setResult .busy s1
      else if nextAborts s then setResult .txErr (afterEmit (sendRtsFrame s.argId p) s1)
      else { afterEmit (sendRtsFrame s.argId p) s1 with
        result := .ok
        txs := tblInsert s1.txs key (txEntry s.argId p) } := by
  simp only [sendRts, attempt_eq, nextAborts_dropDuplicate, params_dropDuplicate]
  cases nextAborts s <;> rfl

/-- R163 to R165, as one equation. -/
theorem sendBam_eq (p : List Byte) (s : State) :
    sendBam p s =
      if s.params.bamqDepth - s.bamq.length < nseg p.length then setResult .queueFull s
      else if nextAborts s then setResult .txErr (afterEmit (sendBamFrame s.argId p) s)
      else { afterEmit (sendBamFrame s.argId p) s with
        result := .ok
        bamq := s.bamq ++ bamData (idSa s.argId) p } := by
  simp only [sendBam, attempt_eq]
  cases nextAborts s <;> rfl

/-- Settles O23: the payload takes the RTS path, whose frame is spelled out byte by byte. -/
theorem sendRtsPath : Obligations.SendRtsPath := by
  intro s p S D hon hlen h9 hmax hp hS hD hpdu1 hone
  subst hS hD
  have hpath : rtsPath s.argId = true := rtsPath_eq_true.2 ⟨hpdu1, hone⟩
  rw [exec_send_of_written hon hlen hmax hp, sendPayload_of_rtsPath h9 hpath, sendRts_eq, sendRtsFrame, rtsFrame,
    frame, cmData_ofNat]
  rfl

/-- Settles O24: the payload takes the BAM path, whose frames are spelled out byte by byte. -/
theorem sendBamPath : Obligations.SendBamPath := by
  intro s p S hon hlen h9 hmax hp hS hall
  subst hS
  have hpath : rtsPath s.argId = false := rtsPath_eq_false.2 hall
  rw [exec_send_of_written hon hlen hmax hp, sendPayload_of_bamPath h9 hpath, sendBam_eq, sendBamFrame, bamFrame,
    frame, cmData_ofNat]
  rfl

/-! ### CTS, EOM-ACK and Abort without a window -/

/-- R168, R173: a CTS whose key is not in TXS. -/
theorem handleCts_of_orphan {dst src : Byte} {s : State} (h : tblHas s.txs (pairKey dst src) = false)
    (count start : Byte) : handleCts dst src count start s = countPv s := by
  rw [handleCts, tblHas_eq_false.1 h]

/-- R169: a CTS that starts at segment 0, whether its key is in TXS or not. -/
theorem handleCts_start_zero (dst src count : Byte) (s : State) : handleCts dst src count 0 s = countPv s := by
  rw [handleCts]
  cases tblFind s.txs (pairKey dst src) <;> rfl

/-- R172: an EOM-ACK whose key is in TXS. -/
theorem handleEomack_of_held {dst src : Byte} {s : State} (h : tblHas s.txs (pairKey dst src) = true) :
    handleEomack dst src s = { s with txs := tblErase s.txs (pairKey dst src) } := if_pos h

/-- R173: an EOM-ACK whose key is not in TXS. -/
theorem handleEomack_of_orphan {dst src : Byte} {s : State} (h : tblHas s.txs (pairKey dst src) = false) :
    handleEomack dst src s = countPv s := if_neg (by simp [h])

/-- Settles O30: both are `count(PV)`. -/
theorem orphansAreViolations : Obligations.OrphansAreViolations := by
  refine fun s prio dst src hon horphan => ⟨fun count start => ?cts, ?eomack⟩
  case cts => rw [exec_rxCts, whenEnabled_on hon, handleCts_of_orphan horphan, countPv]
  case eomack => rw [exec_rxEomack, whenEnabled_on hon, handleEomack_of_orphan horphan, countPv]

/-- Settles O31: an entry that goes is erased from its table. -/
theorem eomackAndAbortDeleteTheirSession : Obligations.EomackAndAbortDeleteTheirSession := by
  refine fun s prio dst src hon => ⟨fun hheld => ?held, fun horphan => ?orphan, ?abort⟩
  case held =>
    refine ⟨{ s with txs := tblErase s.txs (pairKey dst src) }, ?_, rfl, tblFind_erase _ _⟩
    rw [exec_rxEomack, whenEnabled_on hon, handleEomack_of_held hheld]
  case orphan => exact (orphansAreViolations s prio dst src hon horphan).2
  case abort =>
    refine ⟨handleAbort dst src s, ?_, rfl, tblFind_erase _ _⟩
    rw [exec_rxAbort, whenEnabled_on hon]

/-! ### The window of a CTS -/

/-- The numbers of a range that a bound admits are its first ones. -/
theorem filter_le_range' (a k n : Nat) :
    ((List.range' a k).filter fun i => i ≤ n) = List.range' a (min k (n + 1 - a)) := by
  induction k with
  | zero => simp
  | succ k ih =>
    rw [List.range'_1_concat, List.filter_append, ih]
    by_cases hk : a + k ≤ n
    · have hold : min k (n + 1 - a) = k := by omega
      have hnew : min (k + 1) (n + 1 - a) = k + 1 := by omega
      simp [hk, hold, hnew, List.range'_1_concat]
    · have hsame : min (k + 1) (n + 1 - a) = min k (n + 1 - a) := by omega
      simp [hk, hsame]

/-- R169: a window's segments are those of its count that exist, in order. -/
theorem ctsWindow_eq_filter (count : Byte) {start : Byte} (hstart : start ≠ 0) (n : Nat) :
    ctsWindow count start n =
      ((List.range count.toNat).map fun i => start.toNat + i).filter fun k => k ≤ n := by
  have hs : 1 ≤ start.toNat := Nat.one_le_iff_ne_zero.2 fun h => hstart (BitVec.eq_of_toNat_eq h)
  rw [ctsWindow, ← List.range'_eq_map_range, filter_le_range']
  congr 1
  omega

/-- The records that a window puts on CAN_TX: each frame with the answer to it, up to and with the one whose attempt
aborts (R168, R170). -/
def windowRecords : List Frame → State → List TxRec
  | [], _ => []
  | f :: fs, s => ⟨f, nextAnswer s.env⟩ :: if nextAborts s then [] else windowRecords fs (afterEmit f s)

/-- R210: with IGN_TXERR = 0 an attempt that goes on was answered OK. -/
theorem nextAnswer_eq_ok_of_continues {s : State} (hstrict : s.ignTxerr = false) (h : nextAborts s = false) :
    nextAnswer s.env = .ok := by
  cases ha : nextAnswer s.env with
  | ok => rfl
  | err => simp [nextAborts, ha, hstrict] at h

/-- A window whose first attempt aborts has its one record. -/
theorem windowRecords_of_aborts (f : Frame) (fs : List Frame) {s : State} (h : nextAborts s = true) :
    windowRecords (f :: fs) s = [⟨f, nextAnswer s.env⟩] := by
  rw [windowRecords, if_pos h]

/-- A window whose first attempt does not abort goes on. -/
theorem windowRecords_of_continues (f : Frame) (fs : List Frame) {s : State} (h : nextAborts s = false) :
    windowRecords (f :: fs) s = ⟨f, nextAnswer s.env⟩ :: windowRecords fs (afterEmit f s) := by
  rw [windowRecords, if_neg (by simp [h])]

/-- R168: the frames of the records are those of the window from its first on. -/
theorem frames_windowRecords_prefix (fs : List Frame) (s : State) :
    (windowRecords fs s).map TxRec.frame <+: fs := by
  induction fs generalizing s with
  | nil => exact List.nil_prefix
  | cons f fs ih =>
    cases h : nextAborts s with
    | true => simp [windowRecords_of_aborts f fs h]
    | false => simpa [windowRecords_of_continues f fs h] using ih (afterEmit f s)

/-- R24: record `i` holds draw `i` of the oracle. -/
theorem answers_windowRecords (fs : List Frame) (s : State) :
    (windowRecords fs s).map TxRec.ans = (List.range (windowRecords fs s).length).map (drawAt s.env) := by
  induction fs generalizing s with
  | nil => rfl
  | cons f fs ih =>
    cases h : nextAborts s with
    | true => simp [windowRecords_of_aborts f fs h]
    | false => simp [windowRecords_of_continues f fs h, ih, List.range_succ_eq_map]

/-- R170: the window is sent whole where failures are ignored or there are none. -/
theorem frames_windowRecords_eq {fs : List Frame} {s : State}
    (hall : s.ignTxerr = true ∨ ∀ r ∈ windowRecords fs s, r.ans = .ok) :
    (windowRecords fs s).map TxRec.frame = fs := by
  induction fs generalizing s with
  | nil => rfl
  | cons f fs ih =>
    cases h : nextAborts s with
    | true =>
      obtain ⟨herr, hstrict⟩ := nextAborts_eq_true.1 h
      simp [windowRecords_of_aborts f fs h, herr, hstrict] at hall
    | false =>
      rw [windowRecords_of_continues f fs h] at hall ⊢
      have hrest := hall.imp_right fun hok r hr => hok r (List.mem_cons_of_mem _ hr)
      rw [List.map_cons, ih (s := afterEmit f s) hrest]

/-- R170: with IGN_TXERR = 0 no frame follows one that failed. -/
theorem ans_eq_ok_of_mem_dropLast_windowRecords {fs : List Frame} {s : State} (hstrict : s.ignTxerr = false)
    {r : TxRec} (hr : r ∈ (windowRecords fs s).dropLast) : r.ans = .ok := by
  induction fs generalizing s with
  | nil => cases hr
  | cons f fs ih =>
    cases h : nextAborts s with
    | true => simp [windowRecords_of_aborts f fs h] at hr
    | false =>
      rw [windowRecords_of_continues f fs h] at hr
      cases hrest : windowRecords fs (afterEmit f s) with
      | nil => simp [hrest] at hr
      | cons r' rs =>
        rw [hrest, List.dropLast_cons_cons, ← hrest] at hr
        obtain rfl | hr := List.mem_cons.1 hr
        · exact nextAnswer_eq_ok_of_continues hstrict h
        · exact ih (s := afterEmit f s) hstrict hr

/-- The state `s` once the records `rs` have left it: they stand on CAN_TX, each took a draw, each failure is counted,
and one that is not ignored sets STATUS.TXERR (R24, R210, R211). -/
def afterRecords (rs : List TxRec) (s : State) : State :=
  { s with
    txerrCnt := s.txerrCnt + BitVec.ofNat 32 (rs.countP fun r => r.ans = .err)
    txerr := s.txerr || (!s.ignTxerr && rs.any fun r => r.ans = .err)
    env := { s.env with
      answers := s.env.answers.drop rs.length
      draws := s.env.draws + rs.length
      outs := s.env.outs ++ rs.map PortOut.tx } }

theorem afterRecords_nil (s : State) : afterRecords [] s = s := by
  simp [afterRecords]

/-- Records leave one by one, the first as `afterEmit` says. -/
theorem afterRecords_cons (f : Frame) (rs : List TxRec) (s : State) :
    afterRecords (⟨f, nextAnswer s.env⟩ :: rs) s = afterRecords rs (afterEmit f s) := by
  have hcnt (n : Nat) : s.txerrCnt + 1#32 + BitVec.ofNat 32 n = s.txerrCnt + BitVec.ofNat 32 (n + 1) := by
    rw [Nat.add_comm, BitVec.ofNat_add, ← BitVec.add_assoc]
  cases ha : nextAnswer s.env with
  | ok => simp [afterRecords, afterEmit, nextAborts, ha, Nat.add_assoc, Nat.add_comm 1]
  | err =>
    cases hign : s.ignTxerr <;>
      simp [afterRecords, afterEmit, nextAborts, ha, hign, hcnt, Nat.add_assoc, Nat.add_comm 1]

/-- R168, R170: a window leaves the state that its records leave. -/
theorem sendWindow_eq_afterRecords (fs : List Frame) (s : State) :
    sendWindow fs s = afterRecords (windowRecords fs s) s := by
  induction fs generalizing s with
  | nil => exact (afterRecords_nil s).symm
  | cons f fs ih =>
    rw [sendWindow_cons]
    cases h : nextAborts s with
    | true => rw [windowRecords_of_aborts f fs h, afterRecords_cons, afterRecords_nil, if_pos rfl]
    | false => rw [windowRecords_of_continues f fs h, afterRecords_cons, ih, if_neg (by decide)]

/-- R168: a CTS of a held transfer sends its window. -/
theorem handleCts_of_held {dst src start : Byte} {s : State} {e : TxEntry}
    (he : tblFind s.txs (pairKey dst src) = some e) (hstart : start ≠ 0) (count : Byte) :
    handleCts dst src count start s =
      sendWindow ((ctsWindow count start e.nseg).map fun k => dtFrame src dst k e.segs) s := by
  rw [handleCts, he]
  exact if_neg hstart

/-- Settles O29: the records are those of the window's frames, each clause one of the lemmas above. -/
theorem ctsSendsExactlyItsWindow : Obligations.CtsSendsExactlyItsWindow := by
  refine fun s prio dst src count start hon => ⟨?refused, fun e he hstart => ?window⟩
  case refused =>
    rw [exec_rxCts, whenEnabled_on hon]
    rintro (horphan | rfl)
    · rw [handleCts_of_orphan horphan, countPv]
    · rw [handleCts_start_zero, countPv]
  case window =>
    intro window
    have hexec : exec (.rxCts prio dst src count start) s = .next (afterRecords (windowRecords window s) s) := by
      rw [exec_rxCts, whenEnabled_on hon, handleCts_of_held he hstart, ctsWindow_eq_filter count hstart,
        sendWindow_eq_afterRecords]
      rfl
    exact ⟨_, _, hexec, frames_windowRecords_prefix window s, answers_windowRecords window s,
      frames_windowRecords_eq, fun hstrict _ => ans_eq_ok_of_mem_dropLast_windowRecords hstrict, rfl, rfl, rfl⟩

end Sys2Proof.Machine
end

section
/-! SUPPORT. TP receive (44_tp_receive.md R180 to R195): what an announcement does to the table, RTS and BAM alike, and what
completes a session. -/

namespace Sys2Proof.Machine

/-! ### Replacement -/

/-- R182: an entry of the key is deleted and counted. -/
theorem dropReplaced_of_held {k : Nat} {s : State} (h : tblHas s.rxs k = true) :
    dropReplaced k s = countPv { s with rxs := tblErase s.rxs k } := if_pos h

/-- R182: without an entry of the key there is nothing to replace. -/
theorem dropReplaced_of_fresh {k : Nat} {s : State} (h : tblHas s.rxs k = false) : dropReplaced k s = s :=
  if_neg (by simp [h])

theorem tblHas_dropReplaced (k : Nat) (s : State) : tblHas (dropReplaced k s).rxs k = false := by
  cases h : tblHas s.rxs k with
  | true => simp [dropReplaced_of_held h, tblHas_eq_false, tblFind_erase]
  | false => rwa [dropReplaced_of_fresh h]

theorem dropReplaced_dropReplaced (k : Nat) (s : State) : dropReplaced k (dropReplaced k s) = dropReplaced k s :=
  dropReplaced_of_fresh (tblHas_dropReplaced k s)

theorem params_dropReplaced (k : Nat) (s : State) : (dropReplaced k s).params = s.params := by
  rw [dropReplaced_frame]

/-! ### Announcements -/

section
variable {kind : SessKind} {prio : Prio} {dst src : Byte} {tlen : BitVec 16} {tseg : Byte} {pgn : Pgn} {s : State}

/-- R182: an announcement reads the table only once the old entry of its key is gone. -/
theorem announce_dropReplaced :
    announce kind prio dst src tlen tseg pgn (dropReplaced (pairKey src dst) s) =
      announce kind prio dst src tlen tseg pgn s := by
  simp only [announce, dropReplaced_dropReplaced]

theorem handleRts_dropReplaced :
    handleRts prio dst src tlen tseg pgn (dropReplaced (pairKey src dst) s) =
      handleRts prio dst src tlen tseg pgn s := by
  rw [handleRts, announce_dropReplaced, ← handleRts]

theorem handleBam_dropReplaced :
    handleBam prio dst src tlen tseg pgn (dropReplaced (pairKey src dst) s) =
      handleBam prio dst src tlen tseg pgn s := by
  rw [handleBam, announce_dropReplaced, ← handleBam]

/-- R183: a length over 1785 is refused. -/
theorem announce_of_tooLong (h : 1785 < tlen.toNat) :
    announce kind prio dst src tlen tseg pgn s = (false, countPv (dropReplaced (pairKey src dst) s)) := if_pos h

/-- R184: so is an announcement that finds the table full. -/
theorem announce_of_full (hlen : ¬ 1785 < tlen.toNat)
    (hfull : (dropReplaced (pairKey src dst) s).rxs.length = s.params.nRxSess) :
    announce kind prio dst src tlen tseg pgn s = (false, countDrop (dropReplaced (pairKey src dst) s)) := by
  rw [← params_dropReplaced (pairKey src dst) s] at hfull
  exact (if_neg hlen).trans (if_pos hfull)

/-- R185: every other one creates its entry. -/
theorem announce_of_room (hlen : ¬ 1785 < tlen.toNat)
    (hroom : (dropReplaced (pairKey src dst) s).rxs.length ≠ s.params.nRxSess) :
    announce kind prio dst src tlen tseg pgn s =
      (true, { dropReplaced (pairKey src dst) s with
        rxs := tblInsert (dropReplaced (pairKey src dst) s).rxs (pairKey src dst)
          { kind := kind, prio := prio, tlen := tlen, tseg := tseg, pgn := pgn, buf := [] } }) := by
  rw [← params_dropReplaced (pairKey src dst) s] at hroom
  exact (if_neg hlen).trans (if_neg hroom)

/-- R180, R186, R188: the step of an RTS or a BAM is its announcement, and a CTS where an RTS opened a session of a claimed
destination. -/
theorem exec_announcement (hon : s.en = true) (isRts : Bool) :
    exec (if isRts then .rxRts prio dst src tlen tseg pgn else .rxBam prio dst src tlen tseg pgn) s =
      let r := announce (if isRts then .rts else .bam) prio dst src tlen tseg pgn s
      .next (if isRts = true ∧ r.1 = true ∧ isClaimed s dst = true then afterEmit (ctsFrame src dst tseg pgn) r.2
        else r.2) := by
  cases isRts with
  | false => exact whenEnabled_on hon _
  | true =>
    rw [if_pos rfl, exec_rxRts, whenEnabled_on hon, handleRts_eq]
    simp

end

/-- Settles O28: with an entry of the key, the state of the statement is `dropReplaced`. -/
theorem replacementDiscardsTheOldSession : Obligations.ReplacementDiscardsTheOldSession := by
  intro s prio dst src tlen tseg pgn i hi hon hheld s1
  have hs1 : s1 = dropReplaced (pairKey src dst) s := (dropReplaced_of_held hheld).symm
  have hon1 : s1.en = true := hon
  refine ⟨hs1 ▸ tblHas_dropReplaced _ _, ?_⟩
  obtain rfl | rfl := hi
  · rw [exec_rxRts, exec_rxRts, whenEnabled_on hon, whenEnabled_on hon1, hs1, handleRts_dropReplaced]
  · rw [exec_rxBam, exec_rxBam, whenEnabled_on hon, whenEnabled_on hon1, hs1, handleBam_dropReplaced]

/-- Settles O27: one case for each outcome of the announcement. -/
theorem announcementsOpenSessions : Obligations.AnnouncementsOpenSessions := by
  intro s isRts prio dst src tlen tseg pgn s1 s2 hon
  have hs1 : dropReplaced (pairKey src dst) s = s1 := rfl
  rw [exec_announcement hon isRts]
  by_cases hlen : 1785 < tlen.toNat
  · simp [announce_of_tooLong hlen, hs1, hlen, countPv]
  · by_cases hfull : s1.rxs.length = s.params.nRxSess
    · simp [announce_of_full hlen hfull, hs1, hlen, hfull, countDrop]
    · simp only [announce_of_room hlen hfull, hs1, if_neg hlen, if_neg hfull, true_and]
      rfl

/-! ### Completion -/

/-- R190, R191: a data frame whose bytes fill the declared length completes its session. -/
theorem handleDt_of_completing {dst src : Byte} {bytes : List Byte} {s : State} {e : RxEntry}
    (he : tblFind s.rxs (pairKey src dst) = some e) (hlen : e.tlen.toNat ≤ e.buf.length + bytes.length) (seq : Byte) :
    handleDt dst src (seq :: bytes) s = completeSession e src dst (e.buf ++ bytes) s := by
  rw [← List.length_append] at hlen
  rw [handleDt, if_neg (by simp), he]
  exact if_pos hlen

/-- Settles O33: the completion, with the entry deleted before or after the EOM-ACK alike. -/
theorem dataFrameCompletesItsSession : Obligations.DataFrameCompletesItsSession := by
  intro s prio dst src seq bytes e hon he hlen pdu eomack
  rw [exec_rxDt, whenEnabled_on hon, handleDt_of_completing he hlen, completeSession_eq]
  rfl

end Sys2Proof.Machine
end

section
/-! SUPPORT. The commands that only answer, the pace tick and the register writes (45_sequencer_errors.md R205, R214 to
R224): each instruction as one equation, then the obligations. -/

namespace Sys2Proof.Machine

/-! ### NOP and the reserved commands -/

/-- R218. -/
theorem exec_nop (s : State) : exec .nop s = .next (withOut okayOut (setResult .ok s)) := rfl

/-- R219: the twelve reserved opcodes are one command. -/
theorem exec_reservedCmd (s : State) {i : Instr}
    (hi : i ∈ [Instr.reservedCmd4, .reservedCmd5, .reservedCmd6, .reservedCmd7, .reservedCmd8, .reservedCmd9,
      .reservedCmdA, .reservedCmdB, .reservedCmdC, .reservedCmdD, .reservedCmdE, .reservedCmdF]) :
    exec i s = .next (reservedCommand s) := by
  fin_cases hi <;> rfl

/-- R219: which writes ILLEGAL_CMD to RESULT. -/
theorem reservedCommand_eq (s : State) : reservedCommand s = withOut okayOut (setResult .illegalCmd s) := rfl

/-- Settles O18: a reserved opcode is `reservedCommand`. -/
theorem nopAndReservedCommands : Obligations.NopAndReservedCommands := by
  refine fun s => ⟨exec_nop s, fun i hi => ?_⟩
  rw [exec_reservedCmd s hi, reservedCommand_eq, setResult]

/-! ### The pace tick -/

/-- R205: an empty queue has nothing to send. -/
theorem tick_of_empty {s : State} (h : s.bamq = []) : tick s = s := by rw [tick, h]

/-- R205: the oldest frame leaves the queue before it is emitted, so its answer cannot bring it back. -/
theorem tick_of_queued {s : State} {f : Frame} {q : List Frame} (h : s.bamq = f :: q) :
    tick s = afterEmit f { s with bamq := q } := by
  rw [tick, h, ← attempt_snd]

/-- Settles O35: a tick of a disabled block, of one with an empty queue, and of one that sends. -/
theorem paceTickSendsTheOldestFrame : Obligations.PaceTickSendsTheOldestFrame := by
  refine fun s => ⟨?idle, fun f q hon hq => ?sends⟩
  case idle =>
    rintro (hoff | hempty)
    · rw [exec_paceTick, whenEnabled_off hoff]
    · rw [exec_paceTick, whenEnabled_next, tick_of_empty hempty, ite_self]
  case sends => rw [exec_paceTick, whenEnabled_on hon, tick_of_queued hq]

/-! ### CTRL -/

/-- R214. -/
theorem exec_wCtrl (w : Word) (s : State) : exec (.wCtrl w) s = .next (withOut okayOut (writeCtrl w s)) := rfl

/-- R214, R215: where EN falls, the tables and the queue are emptied. -/
theorem writeCtrl_of_falls {w : Word} {s : State} (h : s.en = true ∧ w.getLsbD 0 = false) :
    writeCtrl w s = { s with en := false, ignTxerr := w.getLsbD 1, rxs := [], txs := [], bamq := [] } := by
  rw [writeCtrl, if_pos h, shutdown, h.2]

/-- R214: otherwise only the two bits change. -/
theorem writeCtrl_of_not_falls {w : Word} {s : State} (h : ¬ (s.en = true ∧ w.getLsbD 0 = false)) :
    writeCtrl w s = { s with en := w.getLsbD 0, ignTxerr := w.getLsbD 1 } := if_neg h

/-- Settles O39: EN falls or it does not; where it rises, the tables and the queue are those of the disabled block. -/
theorem ctrlWriteStartsAndShutsDown : Obligations.CtrlWriteStartsAndShutsDown := by
  refine fun w s => ⟨?write, fun hinv hoff hw => ?rises⟩
  case write =>
    rw [exec_wCtrl]
    split_ifs with h
    · rw [writeCtrl_of_falls h]
    · rw [writeCtrl_of_not_falls h]
  case rises =>
    obtain ⟨hrxs, htxs, hbamq⟩ := hinv hoff
    refine ⟨_, exec_wCtrl w s, ?_⟩
    rw [writeCtrl_of_not_falls (by simp [hoff])]
    exact ⟨hw, hrxs, htxs, hbamq⟩

/-! ### The counters -/

/-- R217. -/
theorem exec_wPvCnt (w : Word) (s : State) :
    exec (.wPvCnt w) s = .next (withOut okayOut { s with pvCnt := 0 }) := rfl

/-- R217. -/
theorem exec_wTxerrCnt (w : Word) (s : State) :
    exec (.wTxerrCnt w) s = .next (withOut okayOut { s with txerrCnt := 0 }) := rfl

/-- R217. -/
theorem exec_wDropCnt (w : Word) (s : State) :
    exec (.wDropCnt w) s = .next (withOut okayOut { s with dropCnt := 0 }) := rfl

/-- Settles O42: the equation of each of the three writes, in which the data does not occur. -/
theorem counterWritesClear : Obligations.CounterWritesClear :=
  fun w s => ⟨exec_wPvCnt w s, exec_wTxerrCnt w s, exec_wDropCnt w s⟩

/-! ### The argument registers -/

/-- R224: ARG_ID keeps bits 28:0 (R37). -/
theorem exec_wArgId (w : Word) (s : State) :
    exec (.wArgId w) s = .next (withOut okayOut { s with argId := w.extractLsb' 0 29 }) := by
  rw [← BitVec.setWidth_eq_extractLsb' (by decide)]
  rfl

/-- R224: ARG_PGN keeps bits 17:0 (R38). -/
theorem exec_wArgPgn (w : Word) (s : State) :
    exec (.wArgPgn w) s = .next (withOut okayOut { s with argPgn := w.extractLsb' 0 18 }) := by
  rw [← BitVec.setWidth_eq_extractLsb' (by decide)]
  rfl

/-- R224: ARG_LEN keeps bits 10:0 (R41). -/
theorem exec_wArgLen (w : Word) (s : State) :
    exec (.wArgLen w) s = .next (withOut okayOut { s with argLen := w.extractLsb' 0 11 }) := by
  rw [← BitVec.setWidth_eq_extractLsb' (by decide)]
  rfl

/-- R224: the four fields of ARG_ADDR take their bits (R39). -/
theorem exec_wArgAddr (w : Word) (s : State) :
    exec (.wArgAddr w) s = .next (withOut okayOut { s with
      argPrio := w.extractLsb' 0 3
      argSrc := w.extractLsb' 8 8
      argDest := w.extractLsb' 16 8
      argDestPresent := w.getLsbD 24 }) := rfl

theorem regWord_argAddr (s : State) : regWord s 0x01C = argAddrWord s := rfl

/-- The mask of ARG_ADDR takes its four fields and clears the reserved bits, bit by bit (R39, R108). -/
theorem and_argAddrMask (w : Word) :
    w &&& 0x01FFFF07 = 0#7 ++ BitVec.ofBool (w.getLsbD 24) ++ w.extractLsb' 16 8 ++ w.extractLsb' 8 8 ++
      0#5 ++ w.extractLsb' 0 3 := by
  refine BitVec.eq_of_getLsbD_eq fun i hi => ?_
  simp only [BitVec.getLsbD_and, BitVec.getLsbD_append, BitVec.getLsbD_extractLsb', BitVec.getLsbD_ofBool]
  interval_cases i <;> simp

/-- Settles O41: ARG_ADDR reads as its stored fields between zeros, which is what the mask leaves of the data. -/
theorem argumentRegisterWrites : Obligations.ArgumentRegisterWrites := by
  refine fun w s => ⟨exec_wArgId w s, exec_wArgPgn w s, exec_wArgLen w s, _, exec_wArgAddr w s, ?_, rfl⟩
  rw [regWord_argAddr, and_argAddrMask]
  rfl

/-! ### The claimed addresses -/

/-- Bit 31 of CLAIMED7 has no storage, so address 255 is never claimed (R40). -/
theorem isClaimed_ff (s : State) : isClaimed s 0xFF = false := by
  change (s.claimed7.setWidth 32).getLsbD 31 = false
  simp

/-- Address 255 is bit 31 of CLAIMED7 (R40). -/
theorem eq_ff_iff (a : Byte) : a = 0xFF ↔ a.toNat / 32 = 7 ∧ a.toNat % 32 = 31 := by
  bv_omega

/-- R222: the state with CLAIMEDj written. -/
def writeClaimed (j : Nat) (w : Word) (s : State) : State :=
  match j with
  | 0 => { s with claimed0 := w }
  | 1 => { s with claimed1 := w }
  | 2 => { s with claimed2 := w }
  | 3 => { s with claimed3 := w }
  | 4 => { s with claimed4 := w }
  | 5 => { s with claimed5 := w }
  | 6 => { s with claimed6 := w }
  | 7 => { s with claimed7 := w.setWidth 31 }
  | _ => s

/-- The eight CLAIMED writes are `writeClaimed` at their index. -/
theorem exec_wClaimed (w : Word) (s : State) {ji : Nat × Instr}
    (h : ji ∈ [(0, Instr.wClaimed0 w), (1, .wClaimed1 w), (2, .wClaimed2 w), (3, .wClaimed3 w),
      (4, .wClaimed4 w), (5, .wClaimed5 w), (6, .wClaimed6 w), (7, .wClaimed7 w)]) :
    ji.1 < 8 ∧ exec ji.2 s = .next (withOut okayOut (writeClaimed ji.1 w s)) := by
  fin_cases h <;> exact ⟨by simp, rfl⟩

/-- A CLAIMED write changes the CLAIMED words alone. -/
theorem writeClaimed_frame (j : Nat) (w : Word) (s : State) :
    writeClaimed j w s = { s with
      claimed0 := (writeClaimed j w s).claimed0, claimed1 := (writeClaimed j w s).claimed1
      claimed2 := (writeClaimed j w s).claimed2, claimed3 := (writeClaimed j w s).claimed3
      claimed4 := (writeClaimed j w s).claimed4, claimed5 := (writeClaimed j w s).claimed5
      claimed6 := (writeClaimed j w s).claimed6, claimed7 := (writeClaimed j w s).claimed7 } := by
  unfold writeClaimed
  split <;> rfl

/-- The word CLAIMEDj reads as after `w` is written to it (R40, R222). -/
def claimedWritten (j : Nat) (w : Word) : Word := if j = 7 then (w.setWidth 31).setWidth 32 else w

/-- Every bit of the data is stored but bit 31 of CLAIMED7. -/
theorem getLsbD_claimedWritten (j : Nat) (w : Word) {k : Nat} (hk : k < 32) :
    (claimedWritten j w).getLsbD k = (w.getLsbD k && decide ¬ (j = 7 ∧ k = 31)) := by
  unfold claimedWritten
  split_ifs with hj
  · have hlt : k < 31 ↔ ¬ k = 31 := by omega
    simp [hj, hk, hlt, Bool.and_comm]
  · simp [hj]

/-- A CLAIMED write is read back at its own index and leaves the other words. -/
theorem claimedWord_writeClaimed {i j : Nat} (hi : i < 8) (hj : j < 8) (w : Word) (s : State) :
    claimedWord (writeClaimed j w s) i = if i = j then claimedWritten j w else claimedWord s i := by
  interval_cases j <;> interval_cases i <;> rfl

/-- R222, address by address. -/
theorem isClaimed_writeClaimed {j : Nat} (hj : j < 8) (w : Word) (s : State) (a : Byte) :
    isClaimed (writeClaimed j w s) a =
      if a.toNat / 32 = j then w.getLsbD (a.toNat % 32) && decide (a ≠ 0xFF) else isClaimed s a := by
  have hword : a.toNat / 32 < 8 := Nat.div_lt_of_lt_mul a.isLt
  have hbit : a.toNat % 32 < 32 := Nat.mod_lt _ (by decide)
  rw [isClaimed, claimedWord_writeClaimed hword hj]
  split_ifs with h
  · simp only [getLsbD_claimedWritten j w hbit, ne_eq, eq_ff_iff, h]
  · rfl

/-- Settles O43: each of the eight writes is `writeClaimed`, of which the addresses and the frame are said above. -/
theorem claimedWordWrites : Obligations.ClaimedWordWrites := by
  refine ⟨isClaimed_ff, fun w s ji hji => ?_⟩
  obtain ⟨hj, hexec⟩ := exec_wClaimed w s hji
  refine ⟨_, hexec, isClaimed_writeClaimed hj w s, ?_⟩
  exact congrArg (withOut okayOut) (writeClaimed_frame ji.1 w s)

end Sys2Proof.Machine
end

section
/-! SUPPORT. Where the model stops (60_exceptions.md R231): the unwritten bytes that a SEND and a host read meet, and
that no other instruction faults; before it the accesses that only answer (R242). -/

namespace Sys2Proof.Machine

/-! ### Ignored and illegal accesses -/

/-- R66: an ignored write answers OKAY. -/
theorem exec_wRegOther (off : Offset) (w : Word) (s : State) :
    exec (.wRegOther off w) s = .next (withOut okayOut s) := rfl

/-- R242: an illegal access answers ERROR. -/
theorem exec_hostIllegal (dir : Dir) (off : Offset) (size : Size) (w : Word) (s : State) :
    exec (.hostIllegal dir off size w) s = .next (respondError dir s) := rfl

/-- Settles O45: the response to an illegal access depends on its direction. -/
theorem ignoredAndIllegalAccesses : Obligations.IgnoredAndIllegalAccesses := by
  refine fun off size w s => ⟨exec_wRegOther off w s, ?write, ?read⟩
  case write => rw [exec_hostIllegal, respondError_write, withOut_eq]
  case read => rw [exec_hostIllegal, respondError_read, withOut_eq]

/-! ### The faults of a SEND -/

/-- Below an unwritten byte stands the lowest one, which is the one a SEND names (R156). -/
theorem exists_lowest_unwritten {s : State} {k : Nat} (hk : txbufW s k = false) :
    ∃ i ≤ k, txbufW s i = false ∧ ∀ j < i, txbufW s j = true := by
  have hex : ∃ i, txbufW s i = false := ⟨k, hk⟩
  exact ⟨Nat.find hex, Nat.find_min' hex hk, Nat.find_spec hex, fun j hj => by simpa using Nat.find_min hex hj⟩

/-- R156, R231: a SEND faults where it passes its first two checks and its payload has an unwritten byte. -/
theorem exec_send_eq_fault_iff {s : State} {r : Fault} :
    exec .send s = .fault r ↔ s.en = true ∧ s.argLen.toNat ≤ 1785 ∧
      ∃ k < s.argLen.toNat, txbufW s k = false ∧ (∀ j < k, txbufW s j = true) ∧ r = .unwrittenTxbuf k := by
  refine ⟨fun h => ?_,
    fun ⟨hon, hlen, k, hk, hw, hlow, hr⟩ => hr ▸ exec_send_of_unwritten hon hlen hk hw hlow⟩
  have hon : s.en = true := by
    by_contra hoff
    rw [exec_send_of_disabled (by simpa using hoff)] at h
    cases h
  have hlen : s.argLen.toNat ≤ 1785 := by
    by_contra hlong
    rw [exec_send_of_tooLarge hon (by omega)] at h
    cases h
  refine ⟨hon, hlen, ?_⟩
  by_cases hall : ∀ i < s.argLen.toNat, txbufW s i = true
  · obtain ⟨p, hp, hbytes⟩ := exists_payload_of_written hall
    rw [exec_send_of_written hon hp.symm (by omega) hbytes] at h
    cases h
  · obtain ⟨k, hk, hw⟩ : ∃ k < s.argLen.toNat, txbufW s k = false := by simpa using hall
    obtain ⟨i, hik, hi, hlow⟩ := exists_lowest_unwritten hw
    have hlt : i < s.argLen.toNat := Nat.lt_of_le_of_lt hik hk
    rw [exec_send_of_unwritten hon hlen hlt hi hlow] at h
    cases h
    exact ⟨i, hlt, hi, hlow, rfl⟩

/-- R99: a CMD write that carries the opcode of SEND is a SEND. -/
theorem exec_wCmd_of_send {w : Word} (hw : opcOf w = 3) (s : State) : exec (.wCmd w) s = exec .send s := by
  change execWCmd w s = execSend s
  rw [execWCmd, hw]
  rfl

/-- R99: no other CMD write faults. -/
theorem opcOf_eq_three_of_fault {w : Word} {s : State} {r : Fault} (h : exec (.wCmd w) s = .fault r) : opcOf w = 3 := by
  change execWCmd w s = .fault r at h
  unfold execWCmd at h
  split at h
  case h_4 hopc => exact BitVec.eq_of_toNat_eq hopc
  all_goals cases h

/-- The SEND command and the CMD write that carries it are one step. -/
theorem exec_of_isSend {i : Instr} (hi : isSend i) (s : State) : exec i s = exec .send s := by
  obtain rfl | ⟨w, rfl, hw⟩ := hi
  · rfl
  · exact exec_wCmd_of_send hw s

/-! ### The faults of a host read -/

/-- R63, R231: a host read faults where one of its lanes does. -/
theorem exec_rTxbuf_eq_fault_iff {off : Offset} {size : Size} {s : State} {r : Fault} :
    exec (.rTxbuf off size) s = .fault r ↔
      ∃ k, readLanes s off.toNat size.bytes = .error k ∧ r = .unwrittenTxbuf k := by
  change execRTxbuf off size s = .fault r ↔ _
  unfold execRTxbuf
  cases readLanes s off.toNat size.bytes <;> simp [eq_comm]

/-- A lane at an unwritten byte has no value. -/
theorem readLane_of_unwritten {s : State} {k : Nat} (hk : k < 1785) (hw : txbufW s k = false) :
    readLane s (0x800 + k) = .error k := by
  have hbyte : txbufByte s k = none := tblHas_eq_false.1 hw
  rw [readLane_eq s _ (by omega), Nat.add_sub_cancel_left, if_pos hk, hbyte]

/-- A host read that answers has a value in each of its lanes. -/
theorem exists_readLane_ok {s : State} {off n k : Nat} {bs : List Byte} (h : readLanes s off n = .ok bs) (hk : k < n) :
    ∃ b, readLane s (off + k) = .ok b := by
  induction n generalizing off k bs with
  | zero => omega
  | succ n ih =>
    rw [readLanes] at h
    split at h
    · cases h
    next b hlane =>
      split at h
      · cases h
      next rest hrest =>
        cases k with
        | zero => exact ⟨b, hlane⟩
        | succ k =>
          obtain ⟨c, hc⟩ := ih hrest (Nat.lt_of_succ_lt_succ hk)
          exact ⟨c, by rw [← hc, Nat.add_right_comm, Nat.add_assoc]⟩

/-- R63, R231: a host read of an unwritten byte faults, whichever of its lanes that is. -/
theorem exists_fault_of_unwritten_lane {off : Offset} {size : Size} {s : State} {k : Nat} (hk : k < 1785)
    (hlo : off.toNat ≤ 0x800 + k) (hhi : 0x800 + k < off.toNat + size.bytes) (hw : txbufW s k = false) :
    ∃ r, exec (.rTxbuf off size) s = .fault r := by
  cases hread : readLanes s off.toNat size.bytes with
  | error i => exact ⟨_, exec_rTxbuf_eq_fault_iff.2 ⟨i, hread, rfl⟩⟩
  | ok bs =>
    obtain ⟨b, hb⟩ := exists_readLane_ok hread (k := 0x800 + k - off.toNat) (by omega)
    rw [Nat.add_sub_cancel' hlo, readLane_of_unwritten hk hw] at hb
    cases hb

/-! ### No other instruction faults -/

/-- A received frame or a tick has a next state, whether EN is 1 or 0. -/
theorem whenEnabled_ne_fault (s : State) (f : State → State) (r : Fault) : whenEnabled s f ≠ .fault r := by
  rw [whenEnabled]
  split <;> nofun

/-- The one function that can stop, `segments` at n = 0, stops with a refusal. -/
theorem exec_segments_ne_fault (bytes : List Byte) (n : Nat) (s : State) (r : Fault) :
    exec (.segments bytes n) s ≠ .fault r := by
  change execSegments bytes n s ≠ .fault r
  rw [execSegments]
  split <;> nofun

/-- R231: only a SEND or a host read of TXBUF faults; every instruction not named here has a next state by its
definition. -/
theorem isSend_or_rTxbuf_of_fault {i : Instr} {s : State} {r : Fault} (h : exec i s = .fault r) :
    isSend i ∨ ∃ off size, i = .rTxbuf off size := by
  cases i
  case send => exact .inl (.inl rfl)
  case wCmd w => exact .inl (.inr ⟨w, rfl, opcOf_eq_three_of_fault h⟩)
  case rTxbuf off size => exact .inr ⟨off, size, rfl⟩
  case segments bytes n => exact absurd h (exec_segments_ne_fault bytes n s r)
  case rxStd | rxCmBadlen | rxRts | rxCts | rxEomack | rxBam | rxAbort | rxCmOther | rxDt | rxPass | paceTick =>
    exact absurd h (whenEnabled_ne_fault _ _ r)
  all_goals cases h

/-- Settles O54: the instruction that faults is a SEND or a host read; each faults at an unwritten byte below 1785, and
faults wherever it meets one. -/
theorem faultsAreUnwrittenBytes : Obligations.FaultsAreUnwrittenBytes := by
  refine ⟨fun i s r h => ⟨isSend_or_rTxbuf_of_fault h, ?unwritten⟩, fun i s k hi hon hlen hk hw => ?send,
    fun off size s k => exists_fault_of_unwritten_lane⟩
  case unwritten =>
    obtain hsend | ⟨off, size, rfl⟩ := isSend_or_rTxbuf_of_fault h
    · rw [exec_of_isSend hsend] at h
      obtain ⟨-, hlen, k, hk, hw, -, hr⟩ := exec_send_eq_fault_iff.1 h
      exact ⟨k, hr, by omega, hw⟩
    · obtain ⟨k, hread, hr⟩ := exec_rTxbuf_eq_fault_iff.1 h
      obtain ⟨hk, hbyte⟩ := readLanes_error_unwritten hread
      exact ⟨k, hr, hk, tblHas_eq_false.2 hbyte⟩
  case send =>
    obtain ⟨j, hjk, hj, hlow⟩ := exists_lowest_unwritten hw
    rw [exec_of_isSend hi]
    exact ⟨_, exec_send_eq_fault_iff.2 ⟨hon, hlen, j, by omega, hj, hlow, rfl⟩⟩

end Sys2Proof.Machine
end

section
/-! SUPPORT. Encoding and decoding undo each other (20_memory.md R61 to R63; 30_encoding.md R85 to R98, R103, R110): the
frames of the intake map, the host accesses and the frames the block emits, each decoded from its fields; then the
obligations. -/

namespace Sys2Proof.Machine

/-! ### Received frames -/

/-- R103: a frame whose identifier is built for a received TP frame is classified by its class bits, its length and its
first byte. -/
theorem classify_frame_rxId (prio : Prio) (cls : BitVec 10) (dst src : Byte) (data : List Byte) :
    classify (frame (rxId prio cls dst src) data) =
      if cls = tpCmClass then
        if data.length ≠ 8 then .cmBadlen
        else if data.getD 0 0 = ctlRts then .rts
        else if data.getD 0 0 = ctlCts then .cts
        else if data.getD 0 0 = ctlEomack then .eomack
        else if data.getD 0 0 = ctlBam then .bam
        else if data.getD 0 0 = ctlAbort then .abort
        else .cmOther
      else if cls = tpDtClass then .dt
      else .pass := by
  obtain ⟨-, hcls, -, -⟩ := rxId_fields prio cls dst src
  rw [intakeMapClassifiesFrames, frame, hcls]
  rfl

/-- An extended frame of at most 8 bytes decodes to the instruction of its kind. -/
theorem decode_rx_frame {id : CanId} {data : List Byte} {k : IntakeKind} (hlen : data.length ≤ 8)
    (hk : classify (frame id data) = k) : decode (.rx (frame id data)) = .ok (frameInstr (frame id data) k) :=
  hk ▸ decodeFrame_of_onPort ⟨hlen, nofun⟩

/-- R149: the operands that every TP frame has are the fields its identifier is built from. -/
theorem frame_rxId_fields (prio : Prio) (cls : BitVec 10) (dst src : Byte) (data : List Byte) :
    idPrio (frame (rxId prio cls dst src) data).id = prio ∧ idPs (frame (rxId prio cls dst src) data).id = dst ∧
      idSa (frame (rxId prio cls dst src) data).id = src := by
  obtain ⟨hp, -, hd, hs⟩ := rxId_fields prio cls dst src
  exact ⟨hp, hd, hs⟩

/-- R90, R95, R96: the operands of an RTS, a BAM or an EOM-ACK are read back from its data bytes. -/
theorem operands_cmData (id : CanId) (type : Byte) (len : BitVec 16) (n : Byte) (pgn : Pgn) :
    byteAt (frame id (cmData type len n pgn)) 0 = type ∧
      lenOf (byteAt (frame id (cmData type len n pgn)) 1) (byteAt (frame id (cmData type len n pgn)) 2) = len ∧
      byteAt (frame id (cmData type len n pgn)) 3 = n ∧
      pgnOf (byteAt (frame id (cmData type len n pgn)) 5) (byteAt (frame id (cmData type len n pgn)) 6)
        (byteAt (frame id (cmData type len n pgn)) 7) = pgn :=
  ⟨rfl, lenOf_bytes len, rfl, pgnOf_pgn3 pgn⟩

/-- R91, R95, R97: the operands of a CTS are read back from its data bytes. -/
theorem operands_ctsData (id : CanId) (count start : Byte) (pgn : Pgn) :
    byteAt (frame id (ctsData count start pgn)) 1 = count ∧ byteAt (frame id (ctsData count start pgn)) 2 = start ∧
      pgnOf (byteAt (frame id (ctsData count start pgn)) 5) (byteAt (frame id (ctsData count start pgn)) 6)
        (byteAt (frame id (ctsData count start pgn)) 7) = pgn :=
  ⟨rfl, rfl, pgnOf_pgn3 pgn⟩

/-- R22: a standard identifier, widened to the port's field, is one the port carries, and its low bits are it. -/
theorem decode_rxStd (id : BitVec 11) {data : List Byte} (hlen : data.length ≤ 8) :
    decode (.rx { ext := false, id := id.setWidth 29, data := data }) = .ok (.rxStd id data) := by
  have hid : (id.setWidth 29).toNat < 0x800 := by
    rw [BitVec.toNat_setWidth_of_le (by decide)]
    exact id.isLt
  have hback : (id.setWidth 29).setWidth 11 = id := BitVec.setWidth_setWidth_of_le id (by decide)
  refine (decodeFrame_of_onPort ⟨hlen, fun _ => hid⟩).trans ?_
  rw [intakeMapClassifiesFrames, if_pos rfl, frameInstr, hback]

/-! ### Host accesses -/

/-- R61, R66: a register write at an offset of no writable register is the row of the others. -/
theorem decodeRegWrite_of_not_writable {off : Offset} (w : Word) (h : writableOffsets.contains off.toNat = false) :
    decodeRegWrite off w = .wRegOther off w := by
  unfold decodeRegWrite
  split
  case h_20 => rfl
  all_goals
    next hoff => rw [hoff] at h; contradiction

/-- R62: an access of the register window. -/
theorem decodeAccess_register {off : Offset} (hlegal : accessLegal off .b4 = true) (hreg : off.toNat < 0x800)
    (w : Word) :
    decodeAccess ⟨.read, off, .b4, w⟩ = .rReg off ∧ decodeAccess ⟨.write, off, .b4, w⟩ = decodeRegWrite off w := by
  simp [decodeAccess, hlegal, hreg]

/-- R63: an access of TXBUF. -/
theorem decodeAccess_txbuf {off : Offset} {size : Size} (hlegal : accessLegal off size = true)
    (htx : 0x800 ≤ off.toNat) (w : Word) :
    decodeAccess ⟨.read, off, size, w⟩ = .rTxbuf off size ∧
      decodeAccess ⟨.write, off, size, w⟩ = .wTxbuf off size w := by
  simp [decodeAccess, hlegal, Nat.not_lt.2 htx]

/-- R62, R63: an illegal access. -/
theorem decodeAccess_illegal {off : Offset} {size : Size} (hlegal : accessLegal off size = false) (dir : Dir)
    (w : Word) : decodeAccess ⟨dir, off, size, w⟩ = .hostIllegal dir off size w := by
  simp [decodeAccess, hlegal]

/-- Settles O1, row by row: a command and a write of a named register decode by computation, a frame by its class and its
first byte, and another access by the conditions of its row. -/
theorem decodeOfEncodedInstruction : Obligations.DecodeOfEncodedInstruction := by
  intro i x hw hx
  cases i
  case rxStd id data =>
    cases hx
    exact decode_rxStd id (of_decide_eq_true hw)
  case rxCmBadlen prio dst src data =>
    cases hx
    have hlen : data.length < 8 := of_decide_eq_true hw
    obtain ⟨hp, hd, hs⟩ := frame_rxId_fields prio tpCmClass dst src data
    rw [decode_rx_frame hlen.le (by rw [classify_frame_rxId, if_pos rfl, if_pos hlen.ne]), frameInstr, hp, hd, hs]
    rfl
  case rxRts prio dst src tlen tseg pgn =>
    cases hx
    obtain ⟨hp, hd, hs⟩ := frame_rxId_fields prio tpCmClass dst src (cmData ctlRts tlen tseg pgn)
    obtain ⟨-, hl, hn, hg⟩ := operands_cmData (rxId prio tpCmClass dst src) ctlRts tlen tseg pgn
    rw [decode_rx_frame (k := .rts) le_rfl (classify_frame_rxId _ _ _ _ _), frameInstr, hp, hd, hs, hl, hn, hg]
  case rxBam prio dst src tlen tseg pgn =>
    cases hx
    obtain ⟨hp, hd, hs⟩ := frame_rxId_fields prio tpCmClass dst src (cmData ctlBam tlen tseg pgn)
    obtain ⟨-, hl, hn, hg⟩ := operands_cmData (rxId prio tpCmClass dst src) ctlBam tlen tseg pgn
    rw [decode_rx_frame (k := .bam) le_rfl (classify_frame_rxId _ _ _ _ _), frameInstr, hp, hd, hs, hl, hn, hg]
  case rxCts prio dst src count start =>
    cases hx
    obtain ⟨hp, hd, hs⟩ := frame_rxId_fields prio tpCmClass dst src (ctsData count start 0)
    obtain ⟨hc, ht, -⟩ := operands_ctsData (rxId prio tpCmClass dst src) count start 0
    rw [decode_rx_frame (k := .cts) le_rfl (classify_frame_rxId _ _ _ _ _), frameInstr, hp, hd, hs, hc, ht]
  case rxEomack prio dst src =>
    cases hx
    obtain ⟨hp, hd, hs⟩ := frame_rxId_fields prio tpCmClass dst src (cmData ctlEomack 0 0 0)
    rw [decode_rx_frame (k := .eomack) le_rfl (classify_frame_rxId _ _ _ _ _), frameInstr, hp, hd, hs]
  case rxAbort prio dst src =>
    cases hx
    obtain ⟨hp, hd, hs⟩ := frame_rxId_fields prio tpCmClass dst src
      [ctlAbort, 0xFF, 0xFF, 0xFF, 0xFF, 0x00, 0x00, 0x00]
    rw [decode_rx_frame (k := .abort) le_rfl (classify_frame_rxId _ _ _ _ _), frameInstr, hp, hd, hs]
  case rxCmOther prio dst src ctl =>
    cases hx
    obtain ⟨hp, hd, hs⟩ := frame_rxId_fields prio tpCmClass dst src
      [ctl, 0xFF, 0xFF, 0xFF, 0xFF, 0x00, 0x00, 0x00]
    have hctl : knownCtl ctl = false := by simpa [Instr.wellFormed] using hw
    have hk : classify (frame (rxId prio tpCmClass dst src) [ctl, 0xFF, 0xFF, 0xFF, 0xFF, 0x00, 0x00, 0x00]) =
        .cmOther := by
      simp only [knownCtl, Bool.or_eq_false_iff, beq_eq_false_iff_ne, ne_eq] at hctl
      obtain ⟨⟨⟨⟨hrts, hcts⟩, heom⟩, hbam⟩, habort⟩ := hctl
      exact (classify_frame_rxId _ _ _ _ _).trans <| (if_neg hrts).trans <| (if_neg hcts).trans <|
        (if_neg heom).trans <| (if_neg hbam).trans (if_neg habort)
    rw [decode_rx_frame le_rfl hk, frameInstr, hp, hd, hs]
    rfl
  case rxDt prio dst src data =>
    cases hx
    obtain ⟨hp, hd, hs⟩ := frame_rxId_fields prio tpDtClass dst src data
    rw [decode_rx_frame (k := .dt) (of_decide_eq_true hw) (classify_frame_rxId _ _ _ _ _), frameInstr, hp, hd, hs]
    rfl
  case rxPass id data =>
    cases hx
    obtain ⟨hlen, hcm, hdt⟩ : data.length ≤ 8 ∧ idClass id ≠ tpCmClass ∧ idClass id ≠ tpDtClass :=
      of_decide_eq_true hw
    have hk : classify (frame id data) = .pass := by
      rw [intakeMapClassifiesFrames, frame, if_neg nofun, if_neg hcm, if_neg hdt]
    exact decode_rx_frame hlen hk
  case wTxbuf off size w =>
    cases hx
    simp only [Instr.wellFormed, Bool.and_eq_true, decide_eq_true_eq] at hw
    exact congrArg Except.ok (decodeAccess_txbuf hw.2 hw.1 w).2
  case rTxbuf off size =>
    cases hx
    simp only [Instr.wellFormed, Bool.and_eq_true, decide_eq_true_eq] at hw
    exact congrArg Except.ok (decodeAccess_txbuf hw.2 hw.1 0).1
  case wRegOther off w =>
    cases hx
    simp only [Instr.wellFormed, Bool.and_eq_true, decide_eq_true_eq, Bool.not_eq_true'] at hw
    obtain ⟨⟨hreg, hlegal⟩, hother⟩ := hw
    exact congrArg Except.ok ((decodeAccess_register hlegal hreg w).2.trans (decodeRegWrite_of_not_writable w hother))
  case rReg off =>
    cases hx
    simp only [Instr.wellFormed, Bool.and_eq_true, decide_eq_true_eq] at hw
    exact congrArg Except.ok (decodeAccess_register hw.2 hw.1 0).1
  case hostIllegal dir off size w =>
    cases hx
    exact congrArg Except.ok (decodeAccess_illegal (by simpa [Instr.wellFormed] using hw) dir w)
  case wCtrl | wStatus | wIe | wCmd | wArgId | wArgPgn | wArgAddr | wArgLen | wPvCnt | wTxerrCnt | wDropCnt | wClaimed0 |
      wClaimed1 | wClaimed2 | wClaimed3 | wClaimed4 | wClaimed5 | wClaimed6 | wClaimed7 =>
    cases hx
    simp [decode, decodeAccess, accessLegal, decodeRegWrite]
  case nop | buildId | setDest | send | reservedCmd4 | reservedCmd5 | reservedCmd6 | reservedCmd7 | reservedCmd8 |
      reservedCmd9 | reservedCmdA | reservedCmdB | reservedCmdC | reservedCmdD | reservedCmdE | reservedCmdF |
      paceTick | reset =>
    cases hx
    rfl
  all_goals cases hx -- the rows that no agent gives

/-! ### Emitted frames -/

/-- A row of the EMIT_IW map (R110): priority 7, the class bits `c`, the PS byte and data byte 0 under their masks. -/
def emitRow (k : EmitKind) (c : BitVec 10) (md d mb b : Byte) : EmitRow :=
  ⟨k, 1#1 ++ (7#3 ++ c ++ d ++ 0#8) ++ b, 1#1 ++ (7#3 ++ (0x3FF : BitVec 10) ++ md ++ 0#8) ++ mb⟩

/-- The patterns of R110 are those of its fields. -/
theorem emitMap_eq : emitMap =
    [emitRow .rts tpCmClass 0#8 0#8 0xFF ctlRts, emitRow .bam tpCmClass 0xFF globalAddr 0xFF ctlBam,
     emitRow .cts tpCmClass 0#8 0#8 0xFF ctlCts, emitRow .eomack tpCmClass 0#8 0#8 0xFF ctlEomack,
     emitRow .dtBam tpDtClass 0xFF globalAddr 0#8 0#8, emitRow .dtRts tpDtClass 0#8 0#8 0#8 0#8] := by
  decide

@[simp] theorem emitRow_kind (k : EmitKind) (c : BitVec 10) (md d mb b : Byte) : (emitRow k c md d mb b).kind = k := rfl

/-- The test of a row on a TP frame the block emits, field by field (R94). -/
theorem emitRow_match (base : Pgn) (dst src : Byte) (data : List Byte) (k : EmitKind) (c : BitVec 10)
    (md d mb b : Byte) :
    (intakeWord (frame (tpId base dst src) data) &&& (emitRow k c md d mb b).mask == (emitRow k c md d mb b).pat) =
      (decide (base.extractLsb' 8 10 = c) && decide (dst &&& md = d) && decide (data.getD 0 0 &&& mb = b)) := by
  obtain ⟨hp, hcls, hd, -⟩ := tpId_fields base dst src
  have h := intakeWord_match (frame (tpId base dst src) data) true true (7#3 ++ (0x3FF : BitVec 10) ++ md ++ 0#8)
    (7#3 ++ c ++ d ++ 0#8) mb b
  rw [id_match, show (frame (tpId base dst src) data).id = tpId base dst src from rfl, hp, hcls, hd, mask10] at h
  rw [Bool.eq_iff_iff, beq_iff_eq]
  refine Iff.trans h ?_
  simp [frame, and_assoc]

/-- The kind of the first of some rows that matches a frame of 8 bytes (R106, R110), `short` where none does. -/
def firstEmitKind (f : Frame) (rows : List EmitRow) : EmitKind :=
  ((rows.find? fun r => (intakeWord f &&& r.mask == r.pat) && f.dlc == 8).map (·.kind)).getD .short

theorem classifyEmitted_eq_firstEmitKind (f : Frame) : classifyEmitted f = firstEmitKind f emitMap := by
  unfold classifyEmitted firstEmitKind
  cases emitMap.find? fun r => (intakeWord f &&& r.mask == r.pat) && f.dlc == 8 <;> rfl

@[simp] theorem firstEmitKind_nil (f : Frame) : firstEmitKind f [] = .short := rfl

/-- The rows are tried from the top. -/
theorem firstEmitKind_cons {f : Frame} (h8 : f.dlc = 8) (r : EmitRow) (rows : List EmitRow) :
    firstEmitKind f (r :: rows) = if intakeWord f &&& r.mask == r.pat then r.kind else firstEmitKind f rows := by
  unfold firstEmitKind
  cases h : intakeWord f &&& r.mask == r.pat <;> simp [h, h8]

/-- R110: a TP frame of 8 bytes that the block emits is recognised by its class bits, its destination and its first
byte. -/
theorem classifyEmitted_tpFrame (base : Pgn) (dst src : Byte) {data : List Byte} (h8 : data.length = 8) :
    classifyEmitted (frame (tpId base dst src) data) =
      if base.extractLsb' 8 10 = tpCmClass ∧ data.getD 0 0 = ctlRts then .rts
      else if base.extractLsb' 8 10 = tpCmClass ∧ dst = globalAddr ∧ data.getD 0 0 = ctlBam then .bam
      else if base.extractLsb' 8 10 = tpCmClass ∧ data.getD 0 0 = ctlCts then .cts
      else if base.extractLsb' 8 10 = tpCmClass ∧ data.getD 0 0 = ctlEomack then .eomack
      else if base.extractLsb' 8 10 = tpDtClass ∧ dst = globalAddr then .dtBam
      else if base.extractLsb' 8 10 = tpDtClass then .dtRts
      else .short := by
  rw [classifyEmitted_eq_firstEmitKind, emitMap_eq]
  simp only [firstEmitKind_cons (f := frame (tpId base dst src) data) h8, emitRow_match, emitRow_kind, mask8,
    firstEmitKind_nil, Bool.and_eq_true, decide_eq_true_eq, BitVec.and_zero, and_true, and_assoc]

/-- R94: the operands of an emitted TP frame that stand in its identifier. -/
theorem frame_tpId_fields (base : Pgn) (dst src : Byte) (data : List Byte) :
    idPs (frame (tpId base dst src) data).id = dst ∧ idSa (frame (tpId base dst src) data).id = src := by
  obtain ⟨-, -, hd, hs⟩ := tpId_fields base dst src
  exact ⟨hd, hs⟩

/-- Settles O2, row by row: the frame is classified by `classifyEmitted_tpFrame`, and its operands are read back. -/
theorem decodeOfEmittedFrame : Obligations.DecodeOfEmittedFrame := by
  intro i f hw hf hshort
  cases i
  case txShort id data =>
    cases hf
    rw [decodeEmitted, hshort id data rfl]
    rfl
  case txRts dst src len n pgn =>
    cases hf
    obtain ⟨hd, hs⟩ := frame_tpId_fields pgnTpCm dst src (cmData ctlRts len n pgn)
    obtain ⟨-, hl, hn, hg⟩ := operands_cmData (tpId pgnTpCm dst src) ctlRts len n pgn
    rw [rtsFrame, decodeEmitted, show classifyEmitted _ = .rts from classifyEmitted_tpFrame _ _ _ rfl]
    simp only [hd, hs, hl, hn, hg]
  case txBam src len n pgn =>
    cases hf
    obtain ⟨-, hs⟩ := frame_tpId_fields pgnTpCm globalAddr src (cmData ctlBam len n pgn)
    obtain ⟨-, hl, hn, hg⟩ := operands_cmData (tpId pgnTpCm globalAddr src) ctlBam len n pgn
    rw [bamFrame, decodeEmitted, show classifyEmitted _ = .bam from classifyEmitted_tpFrame _ _ _ rfl]
    simp only [hs, hl, hn, hg]
  case txEomack dst src len n pgn =>
    cases hf
    obtain ⟨hd, hs⟩ := frame_tpId_fields pgnTpCm dst src (cmData ctlEomack len n pgn)
    obtain ⟨-, hl, hn, hg⟩ := operands_cmData (tpId pgnTpCm dst src) ctlEomack len n pgn
    have hk : classifyEmitted (frame (tpId pgnTpCm dst src) (cmData ctlEomack len n pgn)) = .eomack := by
      rw [classifyEmitted_tpFrame _ _ _ rfl]
      simp [cmData]
    rw [eomackFrame, decodeEmitted, hk]
    simp only [hd, hs, hl, hn, hg]
  case txCts dst src n pgn =>
    cases hf
    obtain ⟨hd, hs⟩ := frame_tpId_fields pgnTpCm dst src (ctsData n 1 pgn)
    obtain ⟨hn, -, hg⟩ := operands_ctsData (tpId pgnTpCm dst src) n 1 pgn
    have hk : classifyEmitted (frame (tpId pgnTpCm dst src) (ctsData n 1 pgn)) = .cts := by
      rw [classifyEmitted_tpFrame _ _ _ rfl]
      simp [ctsData]
    rw [ctsFrame, decodeEmitted, hk]
    simp only [hd, hs, hn, hg]
  case txDtRts dst src seq seg =>
    cases hf
    obtain ⟨hone, -, hlen⟩ : dst ≠ globalAddr ∧ seq ≠ 0 ∧ seg.length = 7 := of_decide_eq_true hw
    obtain ⟨hd, hs⟩ := frame_tpId_fields pgnTpDt dst src (seq :: seg)
    have hk : classifyEmitted (frame (tpId pgnTpDt dst src) (seq :: seg)) = .dtRts := by
      rw [classifyEmitted_tpFrame _ _ _ (congrArg (· + 1) hlen)]
      simp [show ¬ dst = 255#8 from hone]
    rw [decodeEmitted, hk]
    simp only [hd, hs]
    rfl
  case txDtBam src seq seg =>
    cases hf
    obtain ⟨-, hlen⟩ : seq ≠ 0 ∧ seg.length = 7 := of_decide_eq_true hw
    obtain ⟨-, hs⟩ := frame_tpId_fields pgnTpDt globalAddr src (seq :: seg)
    have hk : classifyEmitted (frame (tpId pgnTpDt globalAddr src) (seq :: seg)) = .dtBam :=
      classifyEmitted_tpFrame _ _ _ (congrArg (· + 1) hlen)
    rw [decodeEmitted, hk]
    simp only [hs]
    rfl
  all_goals cases hf -- the rows the block does not emit

end Sys2Proof.Machine
end

section
/-! SUPPORT. What a step, a CMD write, a FUNC row and an EMIT_IW row answer (30_encoding.md R99, R110; 40_codec.md R116 to
R138; 00_scope.md R14), and which instruction is refused; then the obligations about each. -/

namespace Sys2Proof.Machine

/-! ### A step -/

/-- Settles O5, by computing the decoder on each word. -/
theorem wordsOfTheTablesDecode : Obligations.WordsOfTheTablesDecode := by
  unfold Obligations.WordsOfTheTablesDecode
  decide

/-- Log entry 1: with no input pending nothing changes. -/
theorem step_of_idle {s : State} (h : s.env.inputs = []) : step s = .next s := by
  rw [step, fetch_nil h]

/-- R14: the next input's instruction runs on the state without that input. -/
theorem step_of_decoded {s : State} {x : Input} {xs : List Input} {i : Instr} (h : s.env.inputs = x :: xs)
    (hx : decode x = .ok i) : step s = exec i { s with env := { s.env with inputs := xs } } := by
  rw [step, fetch_cons h]
  simp only [hx]

/-- Log entry 11: a record no port carries is refused. -/
theorem step_of_rejected {s : State} {x : Input} {xs : List Input} {why : DecodeError} (h : s.env.inputs = x :: xs)
    (hx : decode x = .error why) : step s = .refused (.badInput why) := by
  rw [step, fetch_cons h]
  simp only [hx]

/-- The instruction of a table row's bits is that of its input. -/
theorem decodeTableWord_eq_some {nbits w : Nat} {i : Instr} (h : decodeTableWord nbits w = some i) :
    ∃ x, tableInput nbits w = some x ∧ decode x = .ok i := by
  unfold decodeTableWord at h
  split at h
  · next x hx =>
    refine ⟨x, hx, ?_⟩
    cases hd : decode x with
    | error why => rw [hd] at h; cases h
    | ok j => rw [hd] at h; cases h; rfl
  · cases h

/-- Log entries 8 and 12: the input of a table row's bits, placed first, runs next. -/
theorem step_withFetchWord {nbits w : Nat} {i : Instr} (s : State) (h : decodeTableWord nbits w = some i) :
    step (s.withFetchWord nbits w) = exec i s := by
  obtain ⟨x, hx, hd⟩ := decodeTableWord_eq_some h
  rw [State.withFetchWord, hx, step, fetch_placeInput]
  simp only [hd]

/-- Settles O6: one lemma for each kind of pending input, and the two checks of a frame record in their order. -/
theorem stepRunsTheDecodedInstruction : Obligations.StepRunsTheDecodedInstruction := by
  refine ⟨fun s => step_of_idle, fun s x xs i => step_of_decoded, fun s x xs why => step_of_rejected,
    fun f hlong => ?long, fun f hlen hext hwide => ?wide, fun s nbits w i => step_withFetchWord s⟩
  case long => exact if_pos hlong
  case wide => exact (if_neg (Nat.not_lt.2 hlen)).trans (if_pos ⟨hext, hwide⟩)

/-! ### CMD writes -/

/-- R98: the OPC of a command word is its value modulo 16. -/
theorem toNat_opcOf (w : Word) : (opcOf w).toNat = w.toNat % 16 := by
  rw [opcOf, BitVec.extractLsb'_toNat, Nat.shiftRight_zero]

/-- R219: an OPC of 4 to 15 is one of the twelve reserved commands. -/
theorem decodeOpc_reserved {n : Nat} (h4 : 4 ≤ n) (h16 : n < 16) :
    decodeOpc n ∈ [Instr.reservedCmd4, .reservedCmd5, .reservedCmd6, .reservedCmd7, .reservedCmd8, .reservedCmd9,
      .reservedCmdA, .reservedCmdB, .reservedCmdC, .reservedCmdD, .reservedCmdE, .reservedCmdF] := by
  interval_cases n <;> decide

/-- R99: what a CMD write does, by its OPC. -/
theorem exec_wCmd_eq (w : Word) (s : State) :
    exec (.wCmd w) s =
      if w.toNat % 16 = 0 then exec .nop s
      else if w.toNat % 16 = 1 then exec .buildId s
      else if w.toNat % 16 = 2 then exec .setDest s
      else if w.toNat % 16 = 3 then exec .send s
      else .next (reservedCommand s) := by
  change execWCmd w s = _
  rw [execWCmd, toNat_opcOf]
  split
  · next h => rw [h]; rfl
  · next h => rw [h]; rfl
  · next h => rw [h]; rfl
  · next h => rw [h]; rfl
  · next h0 h1 h2 h3 => rw [if_neg h0, if_neg h1, if_neg h2, if_neg h3]

/-- R219: a CMD write of OPC 4 to 15. -/
theorem exec_wCmd_reserved {w : Word} (h4 : 4 ≤ w.toNat % 16) (s : State) :
    exec (.wCmd w) s = .next (reservedCommand s) := by
  rw [exec_wCmd_eq, if_neg (by omega), if_neg (by omega), if_neg (by omega), if_neg (by omega)]

theorem decodeCmd_of_opc {w : Word} {n : Nat} (h : w.toNat % 16 = n) : decodeCmd w = decodeOpc n := by
  rw [decodeCmd, toNat_opcOf, h]

/-- R99: a CMD write is the command it carries. -/
theorem exec_wCmd_decodeCmd (w : Word) (s : State) : exec (.wCmd w) s = exec (decodeCmd w) s := by
  have h16 : w.toNat % 16 < 16 := Nat.mod_lt _ (by decide)
  obtain h4 | h4 := Nat.lt_or_ge (w.toNat % 16) 4
  · rw [exec_wCmd_eq, decodeCmd, toNat_opcOf]
    interval_cases w.toNat % 16 <;> rfl
  · rw [exec_wCmd_reserved h4, decodeCmd_of_opc rfl, exec_reservedCmd s (decodeOpc_reserved h4 h16)]

/-- Settles O7: the OPC selects the command; NOP and the reserved ones are spelled out. -/
theorem cmdWriteRunsItsCommand : Obligations.CmdWriteRunsItsCommand := by
  refine fun w s => ⟨exec_wCmd_decodeCmd w s, fun h => ⟨decodeCmd_of_opc h, ?nop⟩, decodeCmd_of_opc, decodeCmd_of_opc,
    decodeCmd_of_opc, fun h4 => ?reserved⟩
  case nop => rw [exec_wCmd_eq, if_pos h, exec_nop, setResult]
  case reserved => rw [exec_wCmd_reserved h4, reservedCommand_eq, setResult]

/-! ### FUNC rows and the one refusal -/

/-- A received frame or a tick is never refused. -/
theorem whenEnabled_ne_refused (s : State) (f : State → State) (r : Refusal) : whenEnabled s f ≠ .refused r := by
  rw [whenEnabled]
  split <;> nofun

/-- SEND answers or faults (R156). -/
theorem exec_send_ne_refused (s : State) (r : Refusal) : exec .send s ≠ .refused r := by
  rw [exec_send, execSend]
  split_ifs
  · nofun
  · nofun
  · split <;> nofun

/-- So does a CMD write. -/
theorem exec_wCmd_ne_refused (w : Word) (s : State) (r : Refusal) : exec (.wCmd w) s ≠ .refused r := by
  rw [exec_wCmd_eq]
  split_ifs
  · nofun
  · nofun
  · nofun
  · exact exec_send_ne_refused s r
  · nofun

/-- A host read answers or faults (R63). -/
theorem exec_rTxbuf_ne_refused (off : Offset) (size : Size) (s : State) (r : Refusal) :
    exec (.rTxbuf off size) s ≠ .refused r := by
  change execRTxbuf off size s ≠ .refused r
  unfold execRTxbuf
  split <;> nofun

/-- R136: cutting into chunks of `n ≥ 1` bytes. -/
theorem exec_segments (bytes : List Byte) {n : Nat} (hn : 1 ≤ n) (s : State) :
    exec (.segments bytes n) s = .next (withOut (.func (.chunks (segments bytes n))) s) :=
  if_neg (Nat.one_le_iff_ne_zero.1 hn)

/-- The one refusal of any meaning (log entry 16). -/
theorem eq_segments_of_refused {i : Instr} {s : State} {r : Refusal} (h : exec i s = .refused r) :
    ∃ bytes, i = .segments bytes 0 := by
  cases i
  case segments bytes n =>
    obtain rfl | hn := Nat.eq_zero_or_pos n
    · exact ⟨bytes, rfl⟩
    · rw [exec_segments bytes hn] at h
      cases h
  case send => exact absurd h (exec_send_ne_refused s r)
  case wCmd w => exact absurd h (exec_wCmd_ne_refused w s r)
  case rTxbuf off size => exact absurd h (exec_rTxbuf_ne_refused off size s r)
  case rxStd | rxCmBadlen | rxRts | rxCts | rxEomack | rxBam | rxAbort | rxCmOther | rxDt | rxPass | paceTick =>
    exact absurd h (whenEnabled_ne_refused _ _ r)
  all_goals cases h

/-- Settles O14: each row appends its function's value, and `segments` alone can be refused. -/
theorem combinationalFunctionsAnswer : Obligations.CombinationalFunctionsAnswer :=
  ⟨fun _ _ _ => eq_segments_of_refused, fun s => ⟨fun _ _ _ _ => rfl, fun _ => rfl, fun _ => rfl, fun _ => rfl,
    fun _ _ _ => rfl, fun _ => rfl, fun _ => rfl, fun _ _ => rfl, fun bytes _ hn => exec_segments bytes hn s,
    fun _ => rfl, fun _ => rfl, fun _ => rfl⟩⟩

/-! ### EMIT_IW rows and reset -/

/-- R24: with an answer supplied, an emission takes it. -/
theorem afterEmit_of_answer (f : Frame) {s : State} {a : TxAns} {as : List TxAns} (h : s.env.answers = a :: as) :
    nextAborts s = (decide (a = .err) && !s.ignTxerr) ∧
      afterEmit f s = { s with
        txerrCnt := if a = .err then s.txerrCnt + 1 else s.txerrCnt
        txerr := s.txerr || (decide (a = .err) && !s.ignTxerr)
        env := { s.env with
          answers := as
          draws := s.env.draws + 1
          outs := s.env.outs ++ [.tx { frame := f, ans := a }] } } := by
  have hab : nextAborts s = (decide (a = .err) && !s.ignTxerr) := by rw [nextAborts, nextAnswer_cons h]
  refine ⟨hab, ?_⟩
  rw [afterEmit, hab, nextAnswer_cons h, h]
  rfl

/-- Settles O38: each row is one attempt, whose next state is `afterEmit`; the frames are spelled out byte by byte. -/
theorem emittedFramesByteByByte : Obligations.EmittedFramesByteByByte := by
  intro s dst src n len pgn seq seg l0 l1 g0 g1 g2
  have hsent (f : Frame) : (Host.Outcome.next (attempt f s).2 : Out) = .next (afterEmit f s) := by rw [attempt_snd]
  exact ⟨fun id data => hsent (frame id data), hsent (rtsFrame dst src len n pgn), hsent (bamFrame src len n pgn),
    hsent (frame (tpId pgnTpDt dst src) (seq :: seg)), hsent (frame (tpId pgnTpDt globalAddr src) (seq :: seg)),
    hsent (ctsFrame dst src n pgn), hsent (eomackFrame dst src len n pgn), fun f _ _ => afterEmit_of_answer f,
    nextAnswer_nil⟩

/-- Settles O37: it is the equation of RESET. -/
theorem resetKeepsTheParametersAndPorts : Obligations.ResetKeepsTheParametersAndPorts := exec_reset

end Sys2Proof.Machine
end

section
/-! SUPPORT. What a step can do, said once for every instruction (00_scope.md R14; 10_state.md R20): a host access is one of
ten operations and a response, a received frame or a tick is one of eleven operations under EN, and there are RESET and the
two kinds of instruction no agent gives. The whole-machine rules go through these cases. -/

namespace Sys2Proof.Machine

/-! ### The cases -/

/-- Nothing changed but host registers that no other rule reads or writes: IE, RESULT, the argument registers other than
ARG_ID, and CLAIMED (R34 to R41). -/
abbrev RegistersOnly (s u : State) : Prop :=
  u = { s with
    txerrIe := u.txerrIe, pvIe := u.pvIe, result := u.result, argPgn := u.argPgn, argPrio := u.argPrio
    argSrc := u.argSrc, argDest := u.argDest, argDestPresent := u.argDestPresent, argLen := u.argLen
    claimed0 := u.claimed0, claimed1 := u.claimed1, claimed2 := u.claimed2, claimed3 := u.claimed3
    claimed4 := u.claimed4, claimed5 := u.claimed5, claimed6 := u.claimed6, claimed7 := u.claimed7 }

/-- The host's ways to ARG_ID (R30): its own write, and the two commands, as such or in a CMD write. -/
def WritesArgId (i : Instr) : Prop :=
  i = .buildId ∨ i = .setDest ∨ ∃ w, i = .wArgId w ∨ (i = .wCmd w ∧ (opcOf w = 1 ∨ opcOf w = 2))

/-- What a host access or a command does before it responds. -/
inductive HostOp : Instr → State → State → Prop
  | registers (i : Instr) {s u : State} (h : RegistersOnly s u) : HostOp i s u
  | argId {i : Instr} {s u : State} (hi : WritesArgId i)
      (h : u = { s with argId := u.argId, result := u.result }) : HostOp i s u
  | send {i : Instr} {s : State} {p : List Byte} (hi : isSend i) (hon : s.en = true) (hlen : p.length ≤ 1785) :
      HostOp i s (sendPayload p s)
  | ctrl (w : Word) (s : State) : HostOp (.wCtrl w) s (writeCtrl w s)
  | status (w : Word) (s : State) :
      HostOp (.wStatus w) s { s with txerr := s.txerr && !w.getLsbD 0, pv := s.pv && !w.getLsbD 1 }
  | pvCnt (w : Word) (s : State) : HostOp (.wPvCnt w) s { s with pvCnt := 0 }
  | txerrCnt (w : Word) (s : State) : HostOp (.wTxerrCnt w) s { s with txerrCnt := 0 }
  | dropCnt (w : Word) (s : State) : HostOp (.wDropCnt w) s { s with dropCnt := 0 }
  | txbuf (off : Offset) (size : Size) (w : Word) (s : State) :
      HostOp (.wTxbuf off size w) s (writeLanes off.toNat w 0 size.bytes s)

/-- What a received frame or a tick does while EN = 1. -/
inductive BusOp : Instr → (State → State) → Prop
  | std (id : BitVec 11) (data : List Byte) : BusOp (.rxStd id data) countDrop
  | badlen (prio : Prio) (dst src : Byte) (data : List Byte) : BusOp (.rxCmBadlen prio dst src data) countPv
  | other (prio : Prio) (dst src ctl : Byte) : BusOp (.rxCmOther prio dst src ctl) countPv
  | rts (prio : Prio) (dst src : Byte) (tlen : BitVec 16) (tseg : Byte) (pgn : Pgn) :
      BusOp (.rxRts prio dst src tlen tseg pgn) (handleRts prio dst src tlen tseg pgn)
  | bam (prio : Prio) (dst src : Byte) (tlen : BitVec 16) (tseg : Byte) (pgn : Pgn) :
      BusOp (.rxBam prio dst src tlen tseg pgn) (handleBam prio dst src tlen tseg pgn)
  | cts (prio : Prio) (dst src count start : Byte) :
      BusOp (.rxCts prio dst src count start) (handleCts dst src count start)
  | eomack (prio : Prio) (dst src : Byte) : BusOp (.rxEomack prio dst src) (handleEomack dst src)
  | dt (prio : Prio) (dst src : Byte) (data : List Byte) : BusOp (.rxDt prio dst src data) (handleDt dst src data)
  | abort (prio : Prio) (dst src : Byte) : BusOp (.rxAbort prio dst src) (handleAbort dst src)
  | pass (id : CanId) (data : List Byte) :
      BusOp (.rxPass id data) (output (.pdu { kind := .frame, id := id, len := data.length, data := data }))
  | tick : BusOp .paceTick tick

/-- What an instruction that answers a next state does. -/
inductive Effect : Instr → State → State → Prop
  | host (r : HostRsp) {i : Instr} {s u : State} (h : HostOp i s u) : Effect i s (output (.host r) u)
  | bus {i : Instr} {op : State → State} {s : State} (h : BusOp i op) (hon : s.en = true) : Effect i s (op s)
  | ignored (i : Instr) {s : State} (hoff : s.en = false) : Effect i s s
  | reset (s : State) : Effect .reset s (resetBlock s)
  | emitted {i : Instr} (s : State) (f : Frame) (h : encode i = none) : Effect i s (afterEmit f s)
  | function {i : Instr} (s : State) (v : FuncVal) (h : encode i = none) : Effect i s (output (.func v) s)

/-! ### Every instruction is one of them -/

/-- R146, R205: an operation under EN. -/
theorem Effect.of_whenEnabled {i : Instr} {op : State → State} {s t : State} (hop : BusOp i op)
    (h : whenEnabled s op = .next t) : Effect i s t := by
  cases hen : s.en with
  | true => rw [whenEnabled_on hen] at h; cases h; exact .bus hop hen
  | false => rw [whenEnabled_off hen] at h; cases h; exact .ignored i hen

/-- R155, R156: a SEND that answers is refused by its first two checks, or sends a payload of at most 1785 bytes. -/
theorem Effect.of_send {i : Instr} {s t : State} (hi : isSend i) (h : exec .send s = .next t) : Effect i s t := by
  rw [exec_send, execSend] at h
  split_ifs at h with hoff hlong
  · cases h; exact .host _ (.registers i rfl)
  · cases h; exact .host _ (.registers i rfl)
  · split at h
    · cases h
    · next p hp =>
      cases h
      have hlen : p.length ≤ 1785 := by rw [readTxbuf_length hp]; exact Nat.le_of_not_lt hlong
      exact .host _ (.send hi (by simpa using hoff) hlen)

/-- R99: a CMD write is the command of its OPC. -/
theorem Effect.of_wCmd {w : Word} {s t : State} (h : exec (.wCmd w) s = .next t) : Effect (.wCmd w) s t := by
  have hopc {n : BitVec 4} (hn : w.toNat % 16 = n.toNat) : opcOf w = n :=
    BitVec.eq_of_toNat_eq ((toNat_opcOf w).trans hn)
  rw [exec_wCmd_eq] at h
  split_ifs at h with h0 h1 h2 h3
  · cases h; exact .host _ (.registers _ rfl)
  · cases h; exact .host _ (.argId (.inr (.inr ⟨w, .inr ⟨rfl, .inl (hopc h1)⟩⟩)) (buildId_frame s))
  · cases h; exact .host _ (.argId (.inr (.inr ⟨w, .inr ⟨rfl, .inr (hopc h2)⟩⟩)) (setDest_frame s))
  · exact .of_send (.inr ⟨w, rfl, hopc h3⟩) h
  · cases h; exact .host _ (.registers _ rfl)

/-- R63: a host read that answers changes nothing. -/
theorem Effect.of_rTxbuf {off : Offset} {size : Size} {s t : State} (h : exec (.rTxbuf off size) s = .next t) :
    Effect (.rTxbuf off size) s t := by
  change execRTxbuf off size s = .next t at h
  unfold execRTxbuf at h
  split at h <;> cases h
  exact .host _ (.registers _ rfl)

/-- R62, R63: so does an illegal access. -/
theorem Effect.of_hostIllegal {dir : Dir} {off : Offset} {size : Size} {w : Word} {s t : State}
    (h : exec (.hostIllegal dir off size w) s = .next t) : Effect (.hostIllegal dir off size w) s t := by
  cases dir <;> cases h <;> exact .host _ (.registers _ rfl)

/-- R136: `segments` where it answers. -/
theorem Effect.of_segments {bytes : List Byte} {n : Nat} {s t : State} (h : exec (.segments bytes n) s = .next t) :
    Effect (.segments bytes n) s t := by
  change execSegments bytes n s = .next t at h
  unfold execSegments at h
  split at h <;> cases h
  exact .function s _ rfl

/-- R110: the frame of an EMIT_IW row. -/
theorem Effect.of_attempt {i : Instr} {f : Frame} {s t : State} (hi : encode i = none)
    (h : Host.Outcome.next (attempt f s).2 = (.next t : Out)) : Effect i s t := by
  rw [attempt_snd] at h
  cases h
  exact .emitted s f hi

/-- Whatever an instruction does where it answers is one of the cases. -/
theorem exec_effect {i : Instr} {s t : State} (h : exec i s = .next t) : Effect i s t := by
  cases i
  case rxStd id data => exact .of_whenEnabled (.std id data) h
  case rxCmBadlen prio dst src data => exact .of_whenEnabled (.badlen prio dst src data) h
  case rxCmOther prio dst src ctl => exact .of_whenEnabled (.other prio dst src ctl) h
  case rxRts prio dst src tlen tseg pgn => exact .of_whenEnabled (.rts prio dst src tlen tseg pgn) h
  case rxBam prio dst src tlen tseg pgn => exact .of_whenEnabled (.bam prio dst src tlen tseg pgn) h
  case rxCts prio dst src count start => exact .of_whenEnabled (.cts prio dst src count start) h
  case rxEomack prio dst src => exact .of_whenEnabled (.eomack prio dst src) h
  case rxDt prio dst src data => exact .of_whenEnabled (.dt prio dst src data) h
  case rxAbort prio dst src => exact .of_whenEnabled (.abort prio dst src) h
  case rxPass id data => exact .of_whenEnabled (.pass id data) h
  case paceTick => exact .of_whenEnabled .tick h
  case send => exact .of_send (.inl rfl) h
  case wCmd w => exact .of_wCmd h
  case buildId => cases h; exact .host _ (.argId (.inl rfl) (buildId_frame s))
  case setDest => cases h; exact .host _ (.argId (.inr (.inl rfl)) (setDest_frame s))
  case wArgId w => cases h; exact .host _ (.argId (.inr (.inr ⟨w, .inl rfl⟩)) rfl)
  case wCtrl w => cases h; exact .host _ (.ctrl w s)
  case wStatus w => cases h; exact .host _ (.status w s)
  case wPvCnt w => cases h; exact .host _ (.pvCnt w s)
  case wTxerrCnt w => cases h; exact .host _ (.txerrCnt w s)
  case wDropCnt w => cases h; exact .host _ (.dropCnt w s)
  case wTxbuf off size w => cases h; exact .host _ (.txbuf off size w s)
  case rTxbuf off size => exact .of_rTxbuf h
  case hostIllegal dir off size w => exact .of_hostIllegal h
  case reset => cases h; exact .reset s
  case segments bytes n => exact .of_segments h
  case txShort | txRts | txBam | txDtRts | txDtBam | txCts | txEomack => exact .of_attempt rfl h
  case pgnPack | pgnFields | isPdu1 | pgnNumber | idPack | idUnpack | idDest | withDest | nseg | tpPad =>
    cases h; exact .function s _ rfl
  all_goals -- NOP, the reserved commands, the writes of single registers and the register read
    cases h; exact .host _ (.registers _ rfl)

/-! ### The instructions a step runs -/

/-- What an input decodes to has an encoding: a step runs no EMIT_IW row and no FUNC row (log entries 9 and 10). -/
theorem encode_ne_none_of_decode {x : Input} {i : Instr} (h : decode x = .ok i) : encode i ≠ none := by
  cases x with
  | host a =>
    cases h
    simp only [decodeAccess]
    split_ifs
    · nofun
    · split
      · nofun
      · unfold decodeRegWrite
        split <;> nofun
    · split <;> nofun
  | cmd w =>
    cases h
    simp only [decodeCmd, decodeOpc]
    split <;> nofun
  | rx f =>
    rw [eq_frameInstr_of_decode h]
    cases classify f <;> nofun
  | pace => cases h; nofun
  | rst => cases h; nofun

/-- And is well formed (R114). -/
theorem wellFormed_of_decode {x : Input} {i : Instr} (h : decode x = .ok i) : i.wellFormed = true := by
  cases x with
  | host a => cases h; exact wellFormed_decodeAccess a
  | cmd w => cases h; exact wellFormed_decodeOpc _
  | rx f =>
    have hlen : f.data.length ≤ 8 := by
      by_contra hlong
      change decodeFrame f = .ok i at h
      rw [decodeFrame, if_pos (Nat.lt_of_not_le hlong)] at h
      cases h
    rw [eq_frameInstr_of_decode h]
    exact wellFormed_frameInstr hlen
  | pace => cases h; rfl
  | rst => cases h; rfl

/-- The state a step runs its instruction on: only the pending inputs differ. -/
def withInputs (xs : List Input) (s : State) : State := { s with env := { s.env with inputs := xs } }

/-- What a step does: nothing, or the effect of a well-formed instruction an agent gave. -/
theorem step_effect {s t : State} (h : step s = .next t) :
    t = s ∨ ∃ (i : Instr) (xs : List Input), encode i ≠ none ∧ i.wellFormed = true ∧ Effect i (withInputs xs s) t := by
  cases hin : s.env.inputs with
  | nil => rw [step_of_idle hin] at h; cases h; exact .inl rfl
  | cons x xs =>
    cases hd : decode x with
    | error why => rw [step_of_rejected hin hd] at h; cases h
    | ok i =>
      rw [step_of_decoded hin hd] at h
      exact .inr ⟨i, xs, encode_ne_none_of_decode hd, wellFormed_of_decode hd, exec_effect h⟩

end Sys2Proof.Machine
end

section
/-! SUPPORT. What every operation leaves unchanged (10_state.md R29, R30, R49, R54; 43_tp_transmit.md R174; 44_tp_receive.md
R202): the registers and TXBUF under frames and ticks, ARG_ID, the paced queue and the two tables; then the obligations, each
by the cases of `Effect`. -/

namespace Sys2Proof.Machine

/-! ### Frames and ticks -/

/-- What a frame or a tick may change (R20, R29). -/
abbrev BusFrame (s t : State) : Prop :=
  t = { s with
    pvCnt := t.pvCnt, txerrCnt := t.txerrCnt, dropCnt := t.dropCnt, pv := t.pv, txerr := t.txerr,
    rxs := t.rxs, txs := t.txs, bamq := t.bamq,
    env := { s.env with answers := t.env.answers, draws := t.env.draws, outs := t.env.outs } }

theorem BusOp.frame {i : Instr} {op : State → State} (h : BusOp i op) (s : State) : BusFrame s (op s) := by
  cases h with
  | std | badlen | other | abort | pass => rfl
  | rts prio dst src tlen tseg pgn => rw [handleRts_frame]
  | bam prio dst src tlen tseg pgn => rw [handleBam_frame]
  | cts prio dst src count start => rw [handleCts_frame]
  | eomack prio dst src => rw [handleEomack_frame]
  | dt prio dst src data => rw [handleDt_frame]
  | tick => rw [tick_frame]

/-- Every step of the bus and the pacer is one of these operations under EN (R146, R205). -/
theorem exists_busOp_of_isBusOrPacer {i : Instr} (h : isBusOrPacer i) :
    ∃ op, BusOp i op ∧ ∀ s, exec i s = whenEnabled s op := by
  obtain rfl | ⟨f, hf⟩ := h
  · exact ⟨_, .tick, exec_paceTick⟩
  · rw [eq_frameInstr_of_decode hf]
    cases classify f with
    | std => exact ⟨_, .std _ _, exec_rxStd _ _⟩
    | cmBadlen => exact ⟨_, .badlen _ _ _ _, exec_rxCmBadlen _ _ _ _⟩
    | rts => exact ⟨_, .rts _ _ _ _ _ _, exec_rxRts _ _ _ _ _ _⟩
    | cts => exact ⟨_, .cts _ _ _ _ _, exec_rxCts _ _ _ _ _⟩
    | eomack => exact ⟨_, .eomack _ _ _, exec_rxEomack _ _ _⟩
    | bam => exact ⟨_, .bam _ _ _ _ _ _, exec_rxBam _ _ _ _ _ _⟩
    | abort => exact ⟨_, .abort _ _ _, exec_rxAbort _ _ _⟩
    | cmOther => exact ⟨_, .other _ _ _ _, exec_rxCmOther _ _ _ _⟩
    | dt => exact ⟨_, .dt _ _ _ _, exec_rxDt _ _ _ _⟩
    | pass => exact ⟨_, .pass _ _, exec_rxPass _ _⟩

/-- Settles O59: the operation's frame where EN = 1, and nothing where EN = 0. -/
theorem busAndPacerLeaveTheRegisters : Obligations.BusAndPacerLeaveTheRegisters := by
  intro i s t hi h
  obtain ⟨op, hop, hexec⟩ := exists_busOp_of_isBusOrPacer hi
  rw [hexec, whenEnabled_next] at h
  subst h
  split_ifs
  · exact hop.frame s
  · rfl

/-! ### TXBUF and ARG_ID -/

/-- What a CTRL write may change (R214, R215). -/
theorem writeCtrl_frame (w : Word) (s : State) :
    writeCtrl w s = { s with
      en := (writeCtrl w s).en
      ignTxerr := (writeCtrl w s).ignTxerr
      rxs := (writeCtrl w s).rxs
      txs := (writeCtrl w s).txs
      bamq := (writeCtrl w s).bamq } := by
  simp only [writeCtrl]
  split <;> rfl

/-- R223: of the host's operations a TXBUF write alone changes TXBUF. -/
theorem HostOp.txbuf_eq {i : Instr} {s u : State} (h : HostOp i s u) :
    (∃ off size w, i = .wTxbuf off size w) ∨ u.txbuf = s.txbuf := by
  cases h with
  | registers _ hu => exact .inr (by rw [hu])
  | argId _ hu => exact .inr (by rw [hu])
  | send => exact .inr (by rw [sendPayload_frame])
  | ctrl w => exact .inr (by rw [writeCtrl_frame])
  | status | pvCnt | txerrCnt | dropCnt => exact .inr rfl
  | txbuf off size w => exact .inl ⟨off, size, w, rfl⟩

/-- Settles O60: every other case keeps the list of TXBUF. -/
theorem onlyTxbufWritesChangeTxbuf : Obligations.OnlyTxbufWritesChangeTxbuf := by
  intro i s t h hw hreset k
  suffices ht : t.txbuf = s.txbuf by simp only [txbufByte, ht]
  cases exec_effect h with
  | host r hop =>
    obtain ⟨off, size, w, rfl⟩ | hu := hop.txbuf_eq
    · exact absurd rfl (hw off size w)
    · exact hu
  | bus hop => rw [hop.frame s]
  | ignored | emitted | function => rfl
  | reset => exact absurd rfl hreset

/-- R30: of the host's operations BUILD_ID, SET_DEST and the write of ARG_ID alone change it. -/
theorem HostOp.argId_eq {i : Instr} {s u : State} (h : HostOp i s u) : WritesArgId i ∨ u.argId = s.argId := by
  cases h with
  | registers _ hu => exact .inr (by rw [hu])
  | argId hi => exact .inl hi
  | send => exact .inr (by rw [sendPayload_frame])
  | ctrl w => exact .inr (by rw [writeCtrl_frame])
  | status | pvCnt | txerrCnt | dropCnt => exact .inr rfl
  | txbuf off size w => exact .inr (by rw [writeLanes_frame])

/-- Settles O51: every other case keeps ARG_ID, RESET excepted. -/
theorem onlyTheseWriteArgId : Obligations.OnlyTheseWriteArgId := by
  intro i s t h hne
  cases exec_effect h with
  | host r hop =>
    obtain (hi | hi | hi) | hu := hop.argId_eq
    · exact .inl hi
    · exact .inr (.inl hi)
    · exact .inr (.inr (.inr hi))
    · exact absurd hu hne
  | bus hop => exact absurd (by rw [hop.frame s]) hne
  | ignored | emitted | function => exact absurd rfl hne
  | reset => exact .inr (.inr (.inl rfl))

/-! ### The paths of SEND -/

/-- R140, R158: which path a payload takes. -/
theorem sendPayload_cases (p : List Byte) (s : State) :
    (p.length ≤ 8 ∧ sendPayload p s = sendShort p s) ∨
    (9 ≤ p.length ∧ rtsPath s.argId = true ∧ sendPayload p s = sendRts p s) ∨
    (9 ≤ p.length ∧ rtsPath s.argId = false ∧ sendPayload p s = sendBam p s) := by
  obtain h8 | h9 := Nat.lt_or_ge 8 p.length |>.symm
  · exact .inl ⟨h8, sendPayload_of_short h8 s⟩
  · cases hpath : rtsPath s.argId with
    | true => exact .inr (.inl ⟨h9, rfl, sendPayload_of_rtsPath h9 hpath⟩)
    | false => exact .inr (.inr ⟨h9, rfl, sendPayload_of_bamPath h9 hpath⟩)

/-- What the RTS path changes (R159 to R162). -/
theorem sendRts_frame (p : List Byte) (s : State) :
    sendRts p s = { s with
      txerr := (sendRts p s).txerr
      pv := (sendRts p s).pv
      result := (sendRts p s).result
      pvCnt := (sendRts p s).pvCnt
      txerrCnt := (sendRts p s).txerrCnt
      txs := (sendRts p s).txs
      env := (sendRts p s).env } := by
  have hf := dropDuplicate_frame (pairKey (idSa s.argId) (idPs s.argId)) s
  rw [sendRts_eq]
  simp only []
  generalize dropDuplicate (pairKey (idSa s.argId) (idPs s.argId)) s = s1 at hf ⊢
  rw [hf]
  split_ifs <;> rfl

/-- What the BAM path changes (R163 to R165). -/
theorem sendBam_frame (p : List Byte) (s : State) :
    sendBam p s = { s with
      txerr := (sendBam p s).txerr
      result := (sendBam p s).result
      txerrCnt := (sendBam p s).txerrCnt
      bamq := (sendBam p s).bamq
      env := (sendBam p s).env } := by
  rw [sendBam_eq]
  split_ifs <;> rfl

/-! ### The paced queue -/

/-- R165: SEND only adds to the queue, at its end. -/
theorem sendPayload_bamq (p : List Byte) (s : State) : ∃ q, (sendPayload p s).bamq = s.bamq ++ q := by
  obtain ⟨-, h⟩ | ⟨-, -, h⟩ | ⟨-, -, h⟩ := sendPayload_cases p s <;> rw [h]
  · exact ⟨[], by simp [sendShort_eq]⟩
  · exact ⟨[], by rw [sendRts_frame, List.append_nil]⟩
  · rw [sendBam_eq]
    split_ifs
    · exact ⟨[], (List.append_nil _).symm⟩
    · exact ⟨[], (List.append_nil _).symm⟩
    · exact ⟨_, rfl⟩

theorem writeCtrl_bamq (w : Word) (s : State) :
    (writeCtrl w s).bamq = s.bamq ∨ (isShutdown (.wCtrl w) s ∧ (writeCtrl w s).bamq = []) := by
  by_cases h : s.en = true ∧ w.getLsbD 0 = false
  · exact .inr ⟨⟨w, rfl, h⟩, by rw [writeCtrl_of_falls h]⟩
  · exact .inl (by rw [writeCtrl_of_not_falls h])

/-- R54: what the host's operations do to the queue. -/
theorem HostOp.bamq_cases {i : Instr} {s u : State} (h : HostOp i s u) :
    u.bamq = s.bamq ∨ (isSend i ∧ ∃ q, u.bamq = s.bamq ++ q) ∨ (isShutdown i s ∧ u.bamq = []) := by
  cases h with
  | registers _ hu => exact .inl (by rw [hu])
  | argId _ hu => exact .inl (by rw [hu])
  | send hi => exact .inr (.inl ⟨hi, sendPayload_bamq _ s⟩)
  | ctrl w => exact (writeCtrl_bamq w s).imp_right .inr
  | status | pvCnt | txerrCnt | dropCnt => exact .inl rfl
  | txbuf off size w => exact .inl (by rw [writeLanes_frame])

/-- R205: a tick removes the oldest frame, if any. -/
theorem tick_bamq (s : State) : (tick s).bamq = s.bamq.tail := by
  cases h : s.bamq with
  | nil => rw [tick_of_empty h, h]; rfl
  | cons f q => rw [tick_of_queued h]; rfl

/-- R54: of the frames and the tick, the tick alone changes the queue. -/
theorem BusOp.bamq_cases {i : Instr} {op : State → State} (h : BusOp i op) (s : State) :
    (op s).bamq = s.bamq ∨ (i = .paceTick ∧ (op s).bamq = s.bamq.tail) := by
  cases h with
  | std | badlen | other | abort | pass => exact .inl rfl
  | rts => exact .inl (by rw [handleRts_frame])
  | bam => exact .inl (by rw [handleBam_frame])
  | cts => exact .inl (by rw [handleCts_frame])
  | eomack => exact .inl (by rw [handleEomack_frame])
  | dt => exact .inl (by rw [handleDt_frame])
  | tick => exact .inr ⟨rfl, tick_bamq s⟩

/-- Settles O52: SEND adds, the tick removes, and the queue is emptied with the tables. -/
theorem whoChangesThePacedQueue : Obligations.WhoChangesThePacedQueue := by
  intro i s t h
  cases exec_effect h with
  | host r hop => exact hop.bamq_cases.imp_right fun hu => hu.imp_right fun ⟨hd, he⟩ => .inr ⟨.inr hd, he⟩
  | bus hop => exact (hop.bamq_cases s).imp_right fun ht => .inr (.inl ht)
  | ignored | emitted | function => exact .inl rfl
  | reset => exact .inr (.inr (.inr ⟨.inl rfl, rfl⟩))

/-! ### The TX sessions -/

/-- R159: the duplicate that is dropped is the entry of its key. -/
theorem tblFind_txs_dropDuplicate {k key : Nat} (h : k ≠ key) (s : State) :
    tblFind (dropDuplicate key s).txs k = tblFind s.txs k := by
  rw [dropDuplicate]
  split_ifs
  · exact (tblFind_erase s.txs key k).trans (if_neg h)
  · rfl

/-- R159, R162: the RTS path touches the entry of its own key alone. -/
theorem tblFind_txs_sendRts {k : Nat} {s : State} (h : k ≠ pairKey (idSa s.argId) (idPs s.argId)) (p : List Byte) :
    tblFind (sendRts p s).txs k = tblFind s.txs k := by
  rw [← tblFind_txs_dropDuplicate h s, sendRts_eq]
  simp only []
  split_ifs
  · rfl
  · rfl
  · exact (tblFind_insert _ _ _ k).trans (if_neg h)

theorem tblFind_txs_sendPayload {k : Nat} {s : State} (h : k ≠ pairKey (idSa s.argId) (idPs s.argId))
    (p : List Byte) : tblFind (sendPayload p s).txs k = tblFind s.txs k := by
  obtain ⟨-, hp⟩ | ⟨-, -, hp⟩ | ⟨-, -, hp⟩ := sendPayload_cases p s <;> rw [hp]
  · rw [sendShort_eq]; rfl
  · exact tblFind_txs_sendRts h p
  · rw [sendBam_frame]

/-- R172: an EOM-ACK touches the entry of its own key alone. -/
theorem tblFind_txs_handleEomack {k : Nat} {dst src : Byte} (h : k ≠ pairKey dst src) (s : State) :
    tblFind (handleEomack dst src s).txs k = tblFind s.txs k := by
  rw [handleEomack]
  split_ifs
  · exact (tblFind_erase s.txs _ k).trans (if_neg h)
  · rfl

/-- R174: what the host's operations do to the entry of a key. -/
theorem HostOp.txs_cases {i : Instr} {s u : State} (h : HostOp i s u) (k : Nat) :
    tblFind u.txs k = tblFind s.txs k ∨ isShutdown i s ∨
      (isSend i ∧ k = pairKey (idSa s.argId) (idPs s.argId)) := by
  have hkeep {v : State} (hv : v.txs = s.txs) : tblFind v.txs k = tblFind s.txs k := by rw [hv]
  cases h with
  | registers _ hu => exact .inl (hkeep (by rw [hu]))
  | argId _ hu => exact .inl (hkeep (by rw [hu]))
  | send hi =>
    by_cases hk : k = pairKey (idSa s.argId) (idPs s.argId)
    · exact .inr (.inr ⟨hi, hk⟩)
    · exact .inl (tblFind_txs_sendPayload hk _)
  | ctrl w =>
    by_cases hd : s.en = true ∧ w.getLsbD 0 = false
    · exact .inr (.inl ⟨w, rfl, hd⟩)
    · exact .inl (hkeep (by rw [writeCtrl_of_not_falls hd]))
  | status | pvCnt | txerrCnt | dropCnt => exact .inl rfl
  | txbuf off size w => exact .inl (hkeep (by rw [writeLanes_frame]))

/-- R172, R202: of the frames and the tick, an EOM-ACK of its key alone changes the entry of a key. -/
theorem BusOp.txs_cases {i : Instr} {op : State → State} (h : BusOp i op) (s : State) :
    (op s).txs = s.txs ∨ ∃ prio dst src, i = .rxEomack prio dst src ∧ op = handleEomack dst src := by
  cases h with
  | std | badlen | other | abort | pass => exact .inl rfl
  | rts => exact .inl (by rw [handleRts_frame])
  | bam => exact .inl (by rw [handleBam_frame])
  | cts => exact .inl (by rw [handleCts_frame])
  | eomack prio dst src => exact .inr ⟨prio, dst, src, rfl, rfl⟩
  | dt => exact .inl (by rw [handleDt_frame])
  | tick => exact .inl (by rw [tick_frame])

/-- Settles O53: an entry is found as before in every case but the four named. -/
theorem txSessionLifetime : Obligations.TxSessionLifetime := by
  intro i s t k e h he
  cases exec_effect h with
  | host r hop =>
    obtain hu | hd | hsend := hop.txs_cases k
    · exact .inl (hu.trans he)
    · exact .inr (.inr (.inl hd))
    · exact .inr (.inr (.inr (.inr hsend)))
  | bus hop =>
    obtain ht | ⟨prio, dst, src, rfl, rfl⟩ := hop.txs_cases s
    · exact .inl (by rw [ht, he])
    · by_cases hk : k = pairKey dst src
      · exact .inr (.inr (.inr (.inl ⟨prio, dst, src, rfl, hk⟩)))
      · exact .inl ((tblFind_txs_handleEomack hk s).trans he)
  | ignored | emitted | function => exact .inl he
  | reset => exact .inr (.inl rfl)

/-! ### The RX sessions and the other keys -/

theorem tblFind_rxs_dropReplaced {k key : Nat} (h : k ≠ key) (s : State) :
    tblFind (dropReplaced key s).rxs k = tblFind s.rxs k := by
  rw [dropReplaced]
  split_ifs
  · exact (tblFind_erase s.rxs key k).trans (if_neg h)
  · rfl

/-- R182 to R185: an announcement touches the entry of its own key alone. -/
theorem tblFind_rxs_announce {k : Nat} {dst src : Byte} (h : k ≠ pairKey src dst) (kind : SessKind) (prio : Prio)
    (tlen : BitVec 16) (tseg : Byte) (pgn : Pgn) (s : State) :
    tblFind (announce kind prio dst src tlen tseg pgn s).2.rxs k = tblFind s.rxs k := by
  rw [← tblFind_rxs_dropReplaced h s]
  by_cases hlong : 1785 < tlen.toNat
  · rw [announce_of_tooLong hlong]; rfl
  · by_cases hfull : (dropReplaced (pairKey src dst) s).rxs.length = s.params.nRxSess
    · rw [announce_of_full hlong hfull]; rfl
    · rw [announce_of_room hlong hfull]
      exact (tblFind_insert _ _ _ k).trans (if_neg h)

theorem handleRts_rxs (prio : Prio) (dst src : Byte) (tlen : BitVec 16) (tseg : Byte) (pgn : Pgn) (s : State) :
    (handleRts prio dst src tlen tseg pgn s).rxs = (announce .rts prio dst src tlen tseg pgn s).2.rxs := by
  rw [handleRts_eq]
  split_ifs <;> rfl

/-- R189: a data frame without a sequence byte or without a session. -/
theorem handleDt_of_dropped {dst src : Byte} {data : List Byte} {s : State}
    (h : data = [] ∨ tblFind s.rxs (pairKey src dst) = none) : handleDt dst src data s = countDrop s := by
  rw [handleDt]
  split_ifs with hlen
  · rfl
  · obtain rfl | hnone := h
    · exact absurd rfl hlen
    · rw [hnone]

/-- R190: a data frame that leaves its session short of the declared length. -/
theorem handleDt_of_appending {dst src : Byte} {bytes : List Byte} {s : State} {e : RxEntry}
    (he : tblFind s.rxs (pairKey src dst) = some e) (hlen : e.buf.length + bytes.length < e.tlen.toNat) (seq : Byte) :
    handleDt dst src (seq :: bytes) s =
      { s with rxs := tblInsert s.rxs (pairKey src dst) { e with buf := e.buf ++ bytes } } := by
  rw [← List.length_append] at hlen
  rw [handleDt, if_neg (by simp), he]
  exact if_neg (Nat.not_le.2 hlen)

/-- R189 to R191: what a data frame does, by the session it finds. -/
theorem handleDt_cases (dst src : Byte) (data : List Byte) (s : State) :
    handleDt dst src data s = countDrop s ∨
    ∃ seq bytes e, data = seq :: bytes ∧ tblFind s.rxs (pairKey src dst) = some e ∧
      ((e.buf.length + bytes.length < e.tlen.toNat ∧ handleDt dst src data s =
          { s with rxs := tblInsert s.rxs (pairKey src dst) { e with buf := e.buf ++ bytes } }) ∨
        (e.tlen.toNat ≤ e.buf.length + bytes.length ∧
          handleDt dst src data s = completeSession e src dst (e.buf ++ bytes) s)) := by
  cases data with
  | nil => exact .inl (handleDt_of_dropped (.inl rfl))
  | cons seq bytes =>
    cases he : tblFind s.rxs (pairKey src dst) with
    | none => exact .inl (handleDt_of_dropped (.inr he))
    | some e =>
      refine .inr ⟨seq, bytes, e, rfl, rfl, ?_⟩
      obtain hlt | hle := Nat.lt_or_ge (e.buf.length + bytes.length) e.tlen.toNat
      · exact .inl ⟨hlt, handleDt_of_appending he hlt seq⟩
      · exact .inr ⟨hle, handleDt_of_completing he hle seq⟩

/-- R191 to R195: completion deletes the entry, whatever leaves the ports. -/
theorem completeSession_rxs (e : RxEntry) (src dst : Byte) (buf : List Byte) (s : State) :
    (completeSession e src dst buf s).rxs = tblErase s.rxs (pairKey src dst) := by
  rw [completeSession_eq]
  simp only []
  split_ifs <;> rfl

/-- R189 to R195: a data frame touches the entry of its own key alone. -/
theorem tblFind_rxs_handleDt {k : Nat} {dst src : Byte} (h : k ≠ pairKey src dst) (data : List Byte) (s : State) :
    tblFind (handleDt dst src data s).rxs k = tblFind s.rxs k := by
  obtain hd | ⟨seq, bytes, e, -, -, ⟨-, hd⟩ | ⟨-, hd⟩⟩ := handleDt_cases dst src data s <;> rw [hd]
  · rfl
  · exact (tblFind_insert _ _ _ k).trans (if_neg h)
  · rw [completeSession_rxs]
    exact (tblFind_erase s.rxs _ k).trans (if_neg h)

/-- The key of another pair of addresses is another key (R50, R52). -/
theorem pairKey_ne {a b c d : Byte} (h : (a, b) ≠ (c, d)) : pairKey a b ≠ pairKey c d := fun hk =>
  h (by rw [(pairKey_inj.1 hk).1, (pairKey_inj.1 hk).2])

/-- R202: a frame of the receiver leaves TXS, and RXS but for its own key. -/
theorem receiver_frame {s t : State} {op : State → State} {key : Nat} (h : whenEnabled s op = .next t)
    (htxs : (op s).txs = s.txs) (hrxs : ∀ k ≠ key, tblFind (op s).rxs k = tblFind s.rxs k) :
    t.txs = s.txs ∧ ∀ k ≠ key, tblFind t.rxs k = tblFind s.rxs k := by
  rw [whenEnabled_next] at h
  subst h
  split_ifs
  · exact ⟨htxs, hrxs⟩
  · exact ⟨rfl, fun _ _ => rfl⟩

/-- R202: a frame of the sender leaves RXS, and TXS but for its own key. -/
theorem sender_frame {s t : State} {op : State → State} {key : Nat} (h : whenEnabled s op = .next t)
    (hrxs : (op s).rxs = s.rxs) (htxs : ∀ k ≠ key, tblFind (op s).txs k = tblFind s.txs k) :
    t.rxs = s.rxs ∧ ∀ k ≠ key, tblFind t.txs k = tblFind s.txs k := by
  rw [whenEnabled_next] at h
  subst h
  split_ifs
  · exact ⟨hrxs, htxs⟩
  · exact ⟨rfl, fun _ _ => rfl⟩

/-- Settles O55: each of the six frames leaves the other table by its frame, and changes at most its own key. -/
theorem otherKeysStayUntouched : Obligations.OtherKeysStayUntouched := by
  refine fun i s t prio dst src a b h => ⟨fun hi => ?receiver, fun hi => ?sender⟩
  case receiver =>
    suffices hs : t.txs = s.txs ∧ ∀ k ≠ pairKey src dst, tblFind t.rxs k = tblFind s.rxs k from
      ⟨hs.1, fun hne => hs.2 _ (pairKey_ne hne)⟩
    obtain ⟨tlen, tseg, pgn, rfl | rfl⟩ | ⟨data, rfl⟩ | rfl := hi
    · refine receiver_frame h (by rw [handleRts_frame]) fun k hk => ?_
      rw [handleRts_rxs, tblFind_rxs_announce hk]
    · exact receiver_frame h (by rw [handleBam_frame]) fun k hk =>
        tblFind_rxs_announce hk _ _ _ _ _ s
    · exact receiver_frame h (by rw [handleDt_frame]) fun k hk => tblFind_rxs_handleDt hk data s
    · exact receiver_frame h rfl fun k hk => (tblFind_erase s.rxs _ k).trans (if_neg hk)
  case sender =>
    suffices hs : t.rxs = s.rxs ∧ ∀ k ≠ pairKey dst src, tblFind t.txs k = tblFind s.txs k from
      ⟨hs.1, fun hne => hs.2 _ (pairKey_ne hne)⟩
    obtain ⟨count, start, rfl⟩ | rfl := hi
    · exact sender_frame h (by rw [handleCts_frame]) fun k _ => by
        rw [handleCts_frame]
    · exact sender_frame h (by rw [handleEomack_frame]) fun k hk => tblFind_txs_handleEomack hk s

/-- Settles O32: the two outcomes that complete nothing. -/
theorem dataFrameDroppedOrAppended : Obligations.DataFrameDroppedOrAppended := by
  refine fun s prio dst src data hon => ⟨fun h => ?dropped, fun seq bytes e hdata he hlen => ?appended⟩
  case dropped =>
    rw [exec_rxDt, whenEnabled_on hon, handleDt_of_dropped (h.imp_right tblHas_eq_false.1), countDrop]
  case appended =>
    subst hdata
    refine ⟨{ s with rxs := tblInsert s.rxs (pairKey src dst) { e with buf := e.buf ++ bytes } }, ?_, rfl,
      tblFind_insert s.rxs _ _⟩
    rw [exec_rxDt, whenEnabled_on hon, handleDt_of_appending he hlen]

end Sys2Proof.Machine
end

section
/-! SUPPORT. The accounts and the ports (10_state.md R21 to R24, R58; 42_frame_intake.md R151, R153; 45_sequencer_errors.md R216;
60_exceptions.md R228, R235): that the sticky bits stay and accompany a counted violation, and what each operation puts out
of a port; then the obligations. -/

namespace Sys2Proof.Machine

/-! ### Sticky bits -/

/-- No sticky bit falls, and a counted violation leaves STATUS.PV set (R58, R228). -/
structure Sticky (s t : State) : Prop where
  txerr : s.txerr = true → t.txerr = true
  pv : s.pv = true → t.pv = true
  counted : t.pvCnt ≠ s.pvCnt → t.pv = true

/-- Where PV and its counter are as before, TXERR alone is to be looked at. -/
theorem Sticky.of_eq {s t : State} (htxerr : s.txerr = true → t.txerr = true) (hpv : t.pv = s.pv)
    (hcnt : t.pvCnt = s.pvCnt) : Sticky s t :=
  ⟨htxerr, fun h => hpv.trans h, fun h => absurd hcnt h⟩

theorem Sticky.refl (s : State) : Sticky s s := .of_eq id rfl rfl

theorem Sticky.trans {s t u : State} (hst : Sticky s t) (htu : Sticky t u) : Sticky s u where
  txerr h := htu.txerr (hst.txerr h)
  pv h := htu.pv (hst.pv h)
  counted h := by
    by_cases ht : t.pvCnt = s.pvCnt
    · exact htu.counted (ht ▸ h)
    · exact htu.pv (hst.counted ht)

theorem Sticky.countPv (s : State) : Sticky s (countPv s) := ⟨id, fun _ => rfl, fun _ => rfl⟩

theorem Sticky.afterEmit (f : Frame) (s : State) : Sticky s (afterEmit f s) :=
  .of_eq (fun h => by simp [h]) rfl rfl

theorem Sticky.sendWindow (fs : List Frame) (s : State) : Sticky s (sendWindow fs s) := by
  rw [sendWindow_eq_afterRecords]
  exact .of_eq (fun h => by simp [afterRecords, h]) rfl rfl

theorem Sticky.dropDuplicate (k : Nat) (s : State) : Sticky s (dropDuplicate k s) := by
  rw [Machine.dropDuplicate]
  split_ifs
  · exact ⟨id, fun _ => rfl, fun _ => rfl⟩
  · exact .refl s

theorem Sticky.dropReplaced (k : Nat) (s : State) : Sticky s (dropReplaced k s) := by
  rw [Machine.dropReplaced]
  split_ifs
  · exact ⟨id, fun _ => rfl, fun _ => rfl⟩
  · exact .refl s

theorem Sticky.sendPayload (p : List Byte) (s : State) : Sticky s (sendPayload p s) := by
  obtain ⟨-, h⟩ | ⟨-, -, h⟩ | ⟨-, -, h⟩ := sendPayload_cases p s <;> rw [h]
  · rw [sendShort_eq]
    exact .trans (.afterEmit (frame s.argId p) s) (.of_eq id rfl rfl)
  · rw [sendRts_eq]
    refine .trans (.dropDuplicate (pairKey (idSa s.argId) (idPs s.argId)) s) ?_
    simp only []
    split_ifs
    · exact .of_eq id rfl rfl
    · exact .trans (.afterEmit (sendRtsFrame s.argId p) _) (.of_eq id rfl rfl)
    · exact .trans (.afterEmit (sendRtsFrame s.argId p) _) (.of_eq id rfl rfl)
  · rw [sendBam_eq]
    split_ifs
    · exact .of_eq id rfl rfl
    · exact .trans (.afterEmit (sendBamFrame s.argId p) s) (.of_eq id rfl rfl)
    · exact .trans (.afterEmit (sendBamFrame s.argId p) s) (.of_eq id rfl rfl)

theorem Sticky.announce (kind : SessKind) (prio : Prio) (dst src : Byte) (tlen : BitVec 16) (tseg : Byte) (pgn : Pgn)
    (s : State) : Sticky s (announce kind prio dst src tlen tseg pgn s).2 := by
  refine .trans (.dropReplaced (pairKey src dst) s) ?_
  by_cases hlong : 1785 < tlen.toNat
  · rw [announce_of_tooLong hlong]; exact .countPv _
  · by_cases hfull : (Machine.dropReplaced (pairKey src dst) s).rxs.length = s.params.nRxSess
    · rw [announce_of_full hlong hfull]; exact .of_eq id rfl rfl
    · rw [announce_of_room hlong hfull]; exact .of_eq id rfl rfl

theorem Sticky.completeSession (e : RxEntry) (src dst : Byte) (buf : List Byte) (s : State) :
    Sticky s (completeSession e src dst buf s) := by
  rw [completeSession_eq]
  simp only []
  split_ifs
  · exact .of_eq (fun h => by simp [h]) rfl rfl
  · exact .of_eq (fun h => by simp [h]) rfl rfl
  · exact .of_eq id rfl rfl

/-- R58, R228, for every received frame and the tick. -/
theorem BusOp.sticky {i : Instr} {op : State → State} (h : BusOp i op) (s : State) : Sticky s (op s) := by
  cases h with
  | std | abort | pass => exact .of_eq id rfl rfl
  | badlen | other => exact .countPv s
  | rts prio dst src tlen tseg pgn =>
    rw [handleRts_eq]
    split_ifs
    · exact .trans (.announce _ _ _ _ _ _ _ s) (.afterEmit _ _)
    · exact .announce _ _ _ _ _ _ _ s
  | bam => exact .announce _ _ _ _ _ _ _ s
  | cts dst src count start =>
    rw [handleCts]
    split
    · exact .countPv s
    · split_ifs
      · exact .countPv s
      · exact .sendWindow _ s
  | eomack prio dst src =>
    rw [handleEomack]
    split_ifs
    · exact .of_eq id rfl rfl
    · exact .countPv s
  | dt prio dst src data =>
    obtain hd | ⟨seq, bytes, e, -, -, ⟨-, hd⟩ | ⟨-, hd⟩⟩ := handleDt_cases dst src data s <;> rw [hd]
    · exact .of_eq id rfl rfl
    · exact .of_eq id rfl rfl
    · exact .completeSession _ _ _ _ s
  | tick =>
    cases hq : s.bamq with
    | nil => rw [tick_of_empty hq]; exact .refl s
    | cons f q => rw [tick_of_queued hq]; exact .of_eq (fun h => by simp [h]) rfl rfl

/-- R58, R217, R220: of the host's operations two writes are the exceptions. -/
theorem HostOp.sticky {i : Instr} {s u : State} (h : HostOp i s u) :
    Sticky s u ∨ (∃ w, i = .wStatus w ∧ u.txerr = (s.txerr && !w.getLsbD 0) ∧ u.pv = (s.pv && !w.getLsbD 1) ∧
      u.pvCnt = s.pvCnt) ∨ ((∃ w, i = .wPvCnt w) ∧ u.txerr = s.txerr ∧ u.pv = s.pv) := by
  cases h with
  | registers _ hu => exact .inl (by rw [hu]; exact .of_eq id rfl rfl)
  | argId _ hu => exact .inl (by rw [hu]; exact .of_eq id rfl rfl)
  | send => exact .inl (.sendPayload _ s)
  | ctrl w => exact .inl (by rw [writeCtrl_frame]; exact .of_eq id rfl rfl)
  | status w => exact .inr (.inl ⟨w, rfl, rfl, rfl, rfl⟩)
  | pvCnt w => exact .inr (.inr ⟨⟨w, rfl⟩, rfl, rfl⟩)
  | txerrCnt | dropCnt => exact .inl (.of_eq id rfl rfl)
  | txbuf off size w => exact .inl (by rw [writeLanes_frame]; exact .of_eq id rfl rfl)

/-- What the obligation asks of a step that is sticky. -/
theorem Sticky.exceptions {s t : State} (h : Sticky s t) (i : Instr) :
    (s.txerr = true → t.txerr = false → i = .reset ∨ ∃ w, i = .wStatus w ∧ w.getLsbD 0 = true) ∧
    (s.pv = true → t.pv = false → i = .reset ∨ ∃ w, i = .wStatus w ∧ w.getLsbD 1 = true) ∧
    (t.pvCnt ≠ s.pvCnt → t.pv = true ∨ i = .reset ∨ ∃ w, i = .wPvCnt w) :=
  ⟨fun h1 h2 => absurd (h.txerr h1) (by simp [h2]), fun h1 h2 => absurd (h.pv h1) (by simp [h2]),
    fun hne => .inl (h.counted hne)⟩

/-- Settles O50: every case is sticky but RESET and the two writes. -/
theorem stickyBitsStay : Obligations.StickyBitsStay := by
  intro i s t h
  cases exec_effect h with
  | host r hop =>
    obtain hs | ⟨w, rfl, htxerr, hpv, hcnt⟩ | ⟨⟨w, rfl⟩, htxerr, hpv⟩ := hop.sticky
    · exact (hs.trans (.of_eq id rfl rfl)).exceptions i
    · refine ⟨fun h1 h2 => .inr ⟨w, rfl, ?_⟩, fun h1 h2 => .inr ⟨w, rfl, ?_⟩, fun hne => absurd hcnt hne⟩
      · simpa [htxerr, h1] using h2
      · simpa [hpv, h1] using h2
    · refine ⟨fun h1 h2 => ?_, fun h1 h2 => ?_, fun _ => .inr (.inr ⟨w, rfl⟩)⟩
      · simp [htxerr, h1] at h2
      · simp [hpv, h1] at h2
  | bus hop => exact (hop.sticky s).exceptions i
  | ignored => exact (Sticky.refl s).exceptions i
  | reset => exact ⟨fun _ _ => .inl rfl, fun _ _ => .inl rfl, fun _ => .inr (.inl rfl)⟩
  | emitted => exact (Sticky.afterEmit _ s).exceptions i
  | function => exact (Sticky.of_eq (t := output _ s) id rfl rfl).exceptions i

/-! ### What is put out of a port -/

/-- The record of the ports grows at its end, by things of which `P` holds. -/
def Adds (P : PortOut → Prop) (s t : State) : Prop :=
  ∃ new : List PortOut, t.env.outs = s.env.outs ++ new ∧ ∀ o ∈ new, P o

section
variable {P : PortOut → Prop}

theorem Adds.of_eq {s t : State} (h : t.env.outs = s.env.outs) : Adds P s t := ⟨[], by simp [h], nofun⟩

theorem Adds.trans {s t u : State} (hst : Adds P s t) (htu : Adds P t u) : Adds P s u := by
  obtain ⟨xs, hx, hxs⟩ := hst
  obtain ⟨ys, hy, hys⟩ := htu
  exact ⟨xs ++ ys, by rw [hy, hx, List.append_assoc], fun o ho => (List.mem_append.1 ho).elim (hxs o) (hys o)⟩

theorem Adds.output {o : PortOut} (h : P o) (s : State) : Adds P s (output o s) :=
  ⟨[o], rfl, by simpa using h⟩

theorem Adds.afterEmit {f : Frame} (h : ∀ a, P (.tx ⟨f, a⟩)) (s : State) : Adds P s (afterEmit f s) :=
  ⟨[.tx ⟨f, nextAnswer s.env⟩], rfl, by simpa using h _⟩

theorem Adds.sendWindow {fs : List Frame} (h : ∀ f ∈ fs, ∀ a, P (.tx ⟨f, a⟩)) (s : State) :
    Adds P s (sendWindow fs s) := by
  obtain ⟨rs, hout, hpre⟩ := sendWindow_outs fs s
  refine ⟨rs.map .tx, hout, fun o ho => ?_⟩
  obtain ⟨r, hr, rfl⟩ := List.mem_map.1 ho
  exact h r.frame (hpre.subset (List.mem_map_of_mem hr)) r.ans

/-- An announcement puts nothing out (R182 to R185). -/
theorem Adds.announce (kind : SessKind) (prio : Prio) (dst src : Byte) (tlen : BitVec 16) (tseg : Byte) (pgn : Pgn)
    (s : State) : Adds P s (announce kind prio dst src tlen tseg pgn s).2 :=
  .of_eq (by rw [announce_frame])

/-- SEND puts out one frame at most: the payload itself, the RTS or the BAM (R157, R161, R164). -/
theorem Adds.sendPayload {p : List Byte} {s : State} (hshort : p.length ≤ 8 → ∀ a, P (.tx ⟨frame s.argId p, a⟩))
    (hrts : ∀ a, P (.tx ⟨sendRtsFrame s.argId p, a⟩)) (hbam : ∀ a, P (.tx ⟨sendBamFrame s.argId p, a⟩)) :
    Adds P s (sendPayload p s) := by
  obtain ⟨h8, h⟩ | ⟨-, -, h⟩ | ⟨-, -, h⟩ := sendPayload_cases p s <;> rw [h]
  · rw [sendShort_eq]
    exact .afterEmit (hshort h8) s
  · rw [sendRts_eq]
    refine .trans (t := dropDuplicate (pairKey (idSa s.argId) (idPs s.argId)) s)
      (.of_eq (by rw [dropDuplicate_frame])) ?_
    simp only []
    split_ifs
    · exact .of_eq rfl
    · exact .afterEmit hrts _
    · exact .afterEmit hrts _
  · rw [sendBam_eq]
    split_ifs
    · exact .of_eq rfl
    · exact .afterEmit hbam s
    · exact .afterEmit hbam s

/-- A completion puts out the EOM-ACK, the PDU or both (R191 to R195). -/
theorem Adds.completeSession {e : RxEntry} {src dst : Byte} {buf : List Byte}
    (hack : ∀ a, P (.tx ⟨eomackFrame src dst e.tlen e.tseg e.pgn, a⟩))
    (hpdu : P (.pdu (sessionPdu e src dst (buf.take e.tlen.toNat)))) (s : State) :
    Adds P s (completeSession e src dst buf s) := by
  rw [completeSession_eq]
  simp only []
  split_ifs
  · exact .afterEmit hack _
  · exact .trans (.afterEmit hack _) (.output hpdu _)
  · exact .output hpdu _

end

/-- What an instruction may put out of a port in a state: a response; while EN = 1 an extended frame of at most 8 bytes, a
frame of the queue, the passed frame, or the PDU of a session, of its declared length; and the two kinds of instruction no
agent gives. -/
inductive StepOut (i : Instr) (s : State) : PortOut → Prop
  | response (r : HostRsp) : StepOut i s (.host r)
  | built (r : TxRec) (hon : s.en = true) (hext : r.frame.ext = true) (hlen : r.frame.data.length ≤ 8) :
      StepOut i s (.tx r)
  | queued (r : TxRec) (hon : s.en = true) (h : r.frame ∈ s.bamq) : StepOut i s (.tx r)
  | passed (id : CanId) (data : List Byte) (hon : s.en = true) (hi : i = .rxPass id data) :
      StepOut i s (.pdu { kind := .frame, id := id, len := data.length, data := data })
  | session {e : RxEntry} (src dst : Byte) {data : List Byte} (hon : s.en = true)
      (hi : ∃ prio dst src data, i = .rxDt prio dst src data) (he : tblFind s.rxs (pairKey src dst) = some e)
      (hlen : data.length = e.tlen.toNat) : StepOut i s (.pdu (sessionPdu e src dst data))
  | emitted (r : TxRec) (h : encode i = none) : StepOut i s (.tx r)
  | function (v : FuncVal) (h : encode i = none) : StepOut i s (.func v)

/-- R93: a data frame of a stored transfer has at most 8 bytes. -/
theorem length_dtData_le (k : Nat) (q : List Byte) : (dtData k q).length ≤ 8 := by
  simp only [dtData, Machine.segment, segSize, List.length_cons, List.length_take]
  omega

/-- What a received frame or a tick puts out. -/
theorem BusOp.adds {i : Instr} {op : State → State} {s : State} (h : BusOp i op) (hon : s.en = true) :
    Adds (StepOut i s) s (op s) := by
  cases h with
  | std | badlen | other | abort => exact .of_eq rfl
  | rts prio dst src tlen tseg pgn =>
    rw [handleRts_eq]
    split_ifs
    · exact .trans (.announce _ _ _ _ _ _ _ s) (.afterEmit (fun a => .built ⟨_, a⟩ hon rfl le_rfl) _)
    · exact .announce _ _ _ _ _ _ _ s
  | bam => exact .announce _ _ _ _ _ _ _ s
  | cts prio dst src count start =>
    rw [handleCts]
    split
    · exact .of_eq rfl
    · split_ifs
      · exact .of_eq rfl
      · refine .sendWindow (fun f hf a => ?_) s
        obtain ⟨k, -, rfl⟩ := List.mem_map.1 hf
        exact .built ⟨_, a⟩ hon rfl (length_dtData_le k _)
  | eomack => exact .of_eq (by rw [handleEomack_frame])
  | dt prio dst src data =>
    obtain hd | ⟨seq, bytes, e, -, he, ⟨-, hd⟩ | ⟨hlen, hd⟩⟩ := handleDt_cases dst src data s <;> rw [hd]
    · exact .of_eq rfl
    · exact .of_eq rfl
    · refine .completeSession (fun a => .built ⟨_, a⟩ hon rfl le_rfl) (.session src dst hon ⟨_, _, _, _, rfl⟩ he ?_) s
      rw [← List.length_append] at hlen
      rw [List.length_take, Nat.min_eq_left hlen]
  | pass id data => exact .output (.passed id data hon rfl) s
  | tick =>
    cases hq : s.bamq with
    | nil => exact .of_eq (by rw [tick_of_empty hq])
    | cons f q =>
      rw [tick_of_queued hq]
      exact .trans (.of_eq rfl) (.afterEmit (fun a => .queued ⟨f, a⟩ hon (by simp [hq])) { s with bamq := q })

/-- What a host access puts out before its response: the frames of a SEND. -/
theorem HostOp.adds {i : Instr} {s u : State} (h : HostOp i s u) : Adds (StepOut i s) s u := by
  cases h with
  | registers _ hu => exact .of_eq (by rw [hu])
  | argId _ hu => exact .of_eq (by rw [hu])
  | send hi hon hlen =>
    exact .sendPayload (fun h8 a => .built ⟨_, a⟩ hon rfl h8) (fun a => .built ⟨_, a⟩ hon rfl le_rfl)
      fun a => .built ⟨_, a⟩ hon rfl le_rfl
  | ctrl w => exact .of_eq (by rw [writeCtrl_frame])
  | status | pvCnt | txerrCnt | dropCnt => exact .of_eq rfl
  | txbuf off size w => exact .of_eq (by rw [writeLanes_frame])

/-- What any instruction puts out. -/
theorem Effect.adds {i : Instr} {s t : State} (h : Effect i s t) : Adds (StepOut i s) s t := by
  cases h with
  | host r hop => exact hop.adds.trans (.output (.response r) _)
  | bus hop hon => exact hop.adds hon
  | ignored => exact .of_eq rfl
  | reset => exact .of_eq rfl
  | emitted _ f hi => exact .afterEmit (fun a => .emitted ⟨f, a⟩ hi) s
  | function _ v hi => exact .output (.function v hi) s

/-- Settles O58: of the things put out, the PDUs are the two kinds. -/
theorem whatIsDelivered : Obligations.WhatIsDelivered := by
  intro i s t h
  obtain ⟨new, hnew, hout⟩ := (exec_effect h).adds
  refine ⟨new, hnew, fun p hp => ?_⟩
  cases hout _ hp with
  | passed id data _ hi => exact .inl ⟨id, data, hi, rfl⟩
  | session src dst _ hi => exact .inr ⟨rfl, hi⟩

/-- Settles O57: a frame of the queue is a complete TP.DT frame and a session's length is at most 1785 by the invariant; the
rest of what a step puts out is so bounded in every state. -/
theorem whatLeavesThePorts : Obligations.WhatLeavesThePorts := by
  rintro s t ⟨-, -, ⟨-, -, hrxs⟩, -, ⟨-, hbamq⟩, -⟩ h
  obtain rfl | ⟨i, xs, henc, hwf, heff⟩ := step_effect h
  · exact ⟨[], by simp, by simp, by simp⟩
  obtain ⟨new, hnew, hout⟩ := heff.adds
  refine ⟨new, hnew, fun r hr => ?frame, fun p hp => ?pdu⟩
  case frame =>
    cases hout _ hr with
    | built _ _ hext hlen => exact ⟨hext, hlen⟩
    | queued _ _ hmem => exact ⟨(hbamq _ hmem).1, (hbamq _ hmem).2.1.le⟩
    | emitted _ hnone => exact absurd hnone henc
  case pdu =>
    cases hout _ hp with
    | passed id data _ hi =>
      subst hi
      have hlen : data.length ≤ 8 := (of_decide_eq_true hwf).1
      exact ⟨rfl, hlen.trans (by decide)⟩
    | session src dst _ _ he hlen => exact ⟨hlen.symm, (hrxs _ (mem_of_tblFind he)).2.1⟩

/-! ### The disabled block -/

/-- R216, R217: while EN = 0 a host access leaves each counter or clears it. -/
theorem HostOp.counters_of_disabled {i : Instr} {s u : State} (h : HostOp i s u) (hoff : s.en = false) :
    (u.pvCnt = s.pvCnt ∨ u.pvCnt = 0) ∧ (u.txerrCnt = s.txerrCnt ∨ u.txerrCnt = 0) ∧
      (u.dropCnt = s.dropCnt ∨ u.dropCnt = 0) := by
  cases h with
  | registers _ hu => rw [hu]; exact ⟨.inl rfl, .inl rfl, .inl rfl⟩
  | argId _ hu => rw [hu]; exact ⟨.inl rfl, .inl rfl, .inl rfl⟩
  | send _ hon => simp [hoff] at hon
  | ctrl w => rw [writeCtrl_frame]; exact ⟨.inl rfl, .inl rfl, .inl rfl⟩
  | status => exact ⟨.inl rfl, .inl rfl, .inl rfl⟩
  | pvCnt => exact ⟨.inr rfl, .inl rfl, .inl rfl⟩
  | txerrCnt => exact ⟨.inl rfl, .inr rfl, .inl rfl⟩
  | dropCnt => exact ⟨.inl rfl, .inl rfl, .inr rfl⟩
  | txbuf off size w => rw [writeLanes_frame]; exact ⟨.inl rfl, .inl rfl, .inl rfl⟩

/-- So does every step (R146, R205, R245). -/
theorem Effect.counters_of_disabled {i : Instr} {s t : State} (h : Effect i s t) (henc : encode i ≠ none)
    (hoff : s.en = false) :
    (t.pvCnt = s.pvCnt ∨ t.pvCnt = 0) ∧ (t.txerrCnt = s.txerrCnt ∨ t.txerrCnt = 0) ∧
      (t.dropCnt = s.dropCnt ∨ t.dropCnt = 0) := by
  cases h with
  | host r hop => exact hop.counters_of_disabled hoff
  | bus _ hon => simp [hoff] at hon
  | ignored => exact ⟨.inl rfl, .inl rfl, .inl rfl⟩
  | reset => exact ⟨.inr rfl, .inr rfl, .inr rfl⟩
  | emitted _ _ hnone | function _ _ hnone => exact absurd hnone henc

/-- What is put out while EN = 0 is a response. -/
theorem StepOut.response_of_disabled {i : Instr} {s : State} {o : PortOut} (h : StepOut i s o)
    (henc : encode i ≠ none) (hoff : s.en = false) : ∃ r, o = .host r := by
  cases h with
  | response r => exact ⟨r, rfl⟩
  | built _ hon | queued _ hon | passed _ _ hon | session _ _ hon => simp [hoff] at hon
  | emitted _ hnone | function _ hnone => exact absurd hnone henc

/-- A list of responses is one of their records. -/
theorem exists_map_host {os : List PortOut} (h : ∀ o ∈ os, ∃ r, o = .host r) :
    ∃ rs : List HostRsp, os = rs.map PortOut.host := by
  induction os with
  | nil => exact ⟨[], rfl⟩
  | cons o os ih =>
    obtain ⟨r, rfl⟩ := h o List.mem_cons_self
    obtain ⟨rs, rfl⟩ := ih fun o ho => h o (List.mem_cons_of_mem _ ho)
    exact ⟨r :: rs, rfl⟩

/-- Settles O56: with EN = 0 the cases left are a host access, RESET and nothing at all. -/
theorem disabledBlockIsSilent : Obligations.DisabledBlockIsSilent := by
  intro s t hoff h
  obtain rfl | ⟨i, xs, henc, -, heff⟩ := step_effect h
  · exact ⟨.inl rfl, .inl rfl, .inl rfl, [], by simp⟩
  have hoff' : (withInputs xs s).en = false := hoff
  obtain ⟨new, hnew, hout⟩ := heff.adds
  obtain ⟨rs, rfl⟩ := exists_map_host fun o ho => (hout o ho).response_of_disabled henc hoff'
  obtain ⟨hpv, htxerr, hdrop⟩ := heff.counters_of_disabled henc hoff'
  exact ⟨hpv, htxerr, hdrop, rs, hnew⟩

end Sys2Proof.Machine
end

section
/-! SUPPORT. The invariant (00_scope.md R8; 10_state.md R49 to R54; 45_sequencer_errors.md R214): each of its parts under each
operation that touches it, then reset and the step. -/

namespace Sys2Proof.Machine

/-! ### The RX sessions -/

theorem RxsInv.erase {s : State} (h : RxsInv s) (k : Nat) : RxsInv { s with rxs := tblErase s.rxs k } := by
  obtain ⟨hwf, hlen, hok⟩ := h
  exact ⟨hwf.erase k, (length_tblErase_le s.rxs k).trans hlen, fun p hp => hok p (mem_tblErase.1 hp).1⟩

/-- A table within its capacity stays so when an entry is replaced, or inserted where the table is not full. -/
theorem length_tblInsert_le_of_room {α : Type} {t : List (Nat × α)} {k n : Nat} (hwf : TblWf t) (hlen : t.length ≤ n)
    (hroom : tblHas t k = true ∨ t.length ≠ n) (v : α) : (tblInsert t k v).length ≤ n := by
  obtain hheld | hfree := hroom
  · exact (length_tblInsert_of_mem hwf hheld).trans_le hlen
  · exact (length_tblInsert_le t k v).trans (Nat.lt_of_le_of_ne hlen hfree)

theorem RxsInv.insert {s : State} (h : RxsInv s) {k : Nat} {e : RxEntry} (hk : k < 65536) (he : e.Ok)
    (hroom : tblHas s.rxs k = true ∨ s.rxs.length ≠ s.params.nRxSess) :
    RxsInv { s with rxs := tblInsert s.rxs k e } := by
  obtain ⟨hwf, hlen, hok⟩ := h
  refine ⟨hwf.insert k e, length_tblInsert_le_of_room hwf hlen hroom e, fun p hp => ?_⟩
  obtain rfl | hold := mem_tblInsert hp
  · exact ⟨hk, he⟩
  · exact hok p hold

/-- R51: an entry just announced, whose length is within the maximum. -/
theorem RxEntry.ok_of_announced {e : RxEntry} (hlen : e.tlen.toNat ≤ maxPayload) (hbuf : e.buf = []) : e.Ok := by
  refine ⟨hlen, ?_⟩
  by_cases hzero : e.tlen = 0
  · exact .inr ⟨hzero, hbuf⟩
  · have hpos : e.tlen.toNat ≠ 0 := fun h => hzero (BitVec.eq_of_toNat_eq h)
    exact .inl (by rw [hbuf]; exact Nat.pos_of_ne_zero hpos)

theorem RxsInv.dropReplaced {s : State} (h : RxsInv s) (k : Nat) : RxsInv (dropReplaced k s) := by
  rw [Machine.dropReplaced]
  split_ifs
  · exact h.erase k
  · exact h

/-- R182 to R185: an announcement keeps the table's bounds. -/
theorem RxsInv.announce {s : State} (h : RxsInv s) (kind : SessKind) (prio : Prio) (dst src : Byte) (tlen : BitVec 16)
    (tseg : Byte) (pgn : Pgn) : RxsInv (announce kind prio dst src tlen tseg pgn s).2 := by
  have hdrop := h.dropReplaced (pairKey src dst)
  by_cases hlong : 1785 < tlen.toNat
  · rw [announce_of_tooLong hlong]
    exact hdrop
  · by_cases hfull : (Machine.dropReplaced (pairKey src dst) s).rxs.length = s.params.nRxSess
    · rw [announce_of_full hlong hfull]
      exact hdrop
    · rw [announce_of_room hlong hfull]
      refine hdrop.insert (pairKey_lt src dst) (RxEntry.ok_of_announced (Nat.le_of_not_lt hlong) rfl) (.inr ?_)
      rwa [params_dropReplaced]

/-- R189 to R195: a data frame keeps the bounds: what it appends leaves the buffer short of the declared length. -/
theorem RxsInv.handleDt {s : State} (h : RxsInv s) (dst src : Byte) (data : List Byte) :
    RxsInv (handleDt dst src data s) := by
  obtain hd | ⟨seq, bytes, e, -, he, ⟨hlen, hd⟩ | ⟨-, hd⟩⟩ := handleDt_cases dst src data s
  · rw [hd]
    exact h
  · rw [hd]
    have ⟨_, _, hok⟩ := h
    obtain ⟨hk, hmax, -⟩ := hok _ (mem_of_tblFind he)
    exact RxsInv.insert h hk ⟨hmax, .inl (by rwa [List.length_append])⟩ (.inl (tblHas_eq_true.2 ⟨e, he⟩))
  · have hrxs : (Machine.handleDt dst src data s).rxs = tblErase s.rxs (pairKey src dst) := by
      rw [hd, completeSession_rxs]
    rw [handleDt_frame, hrxs]
    exact h.erase _

/-! ### The TX sessions -/

theorem TxsInv.erase {s : State} (h : TxsInv s) (k : Nat) : TxsInv { s with txs := tblErase s.txs k } := by
  obtain ⟨hwf, hlen, hok⟩ := h
  exact ⟨hwf.erase k, (length_tblErase_le s.txs k).trans hlen, fun p hp => hok p (mem_tblErase.1 hp).1⟩

theorem TxsInv.insert {s : State} (h : TxsInv s) {k : Nat} {e : TxEntry} (hk : k < 65536) (hdst : k % 256 ≠ 255)
    (he : e.Ok) (hroom : s.txs.length ≠ s.params.nTxSess) : TxsInv { s with txs := tblInsert s.txs k e } := by
  obtain ⟨hwf, hlen, hok⟩ := h
  refine ⟨hwf.insert k e, length_tblInsert_le_of_room hwf hlen (.inr hroom) e, fun p hp => ?_⟩
  obtain rfl | hold := mem_tblInsert hp
  · exact ⟨hk, hdst, he⟩
  · exact hok p hold

/-- R53, R162: the entry of a payload of the RTS path. -/
theorem TxEntry.ok_txEntry {id : CanId} {p : List Byte} (h9 : 9 ≤ p.length) (hmax : p.length ≤ 1785) :
    (txEntry id p).Ok :=
  ⟨h9, hmax, rfl, length_tpPad p⟩

theorem TxsInv.dropDuplicate {s : State} (h : TxsInv s) (k : Nat) : TxsInv (dropDuplicate k s) := by
  rw [Machine.dropDuplicate]
  split_ifs
  · exact h.erase k
  · exact h

/-- R159 to R162: the RTS path stores a transfer to one destination, where the table has room. -/
theorem TxsInv.sendRts {s : State} (h : TxsInv s) {p : List Byte} (h9 : 9 ≤ p.length) (hmax : p.length ≤ 1785)
    (hpath : rtsPath s.argId = true) : TxsInv (sendRts p s) := by
  have hdrop := h.dropDuplicate (pairKey (idSa s.argId) (idPs s.argId))
  have hdst : pairKey (idSa s.argId) (idPs s.argId) % 256 ≠ 255 := by
    rw [pairKey_mod]
    exact fun hps => (rtsPath_eq_true.1 hpath).2 (BitVec.eq_of_toNat_eq hps)
  rw [sendRts_eq]
  simp only []
  split_ifs with hfull
  · exact hdrop
  · exact hdrop
  · rw [← params_dropDuplicate (pairKey (idSa s.argId) (idPs s.argId)) s] at hfull
    exact hdrop.insert (pairKey_lt _ _) hdst (TxEntry.ok_txEntry h9 hmax) hfull

theorem TxsInv.sendPayload {s : State} (h : TxsInv s) {p : List Byte} (hmax : p.length ≤ 1785) :
    TxsInv (sendPayload p s) := by
  obtain ⟨-, hp⟩ | ⟨h9, hpath, hp⟩ | ⟨-, -, hp⟩ := sendPayload_cases p s <;> rw [hp]
  · rw [sendShort_eq]
    exact h
  · exact h.sendRts h9 hmax hpath
  · rw [sendBam_frame]
    exact h

theorem TxsInv.handleEomack {s : State} (h : TxsInv s) (dst src : Byte) : TxsInv (handleEomack dst src s) := by
  rw [Machine.handleEomack]
  split_ifs
  · exact h.erase _
  · exact h

/-! ### The paced queue -/

/-- R54, R167: the data frames of a BAM transfer are complete. -/
theorem pacedFrame_of_mem_bamData {src : Byte} {p : List Byte} {f : Frame} (hf : f ∈ bamData src p) :
    PacedFrame f := by
  obtain ⟨i, hi, rfl⟩ := List.mem_map.1 hf
  have hseg := length_segment_tpPad (List.mem_range.1 hi)
  refine ⟨rfl, congrArg (· + 1) hseg, ?_⟩
  obtain ⟨-, -, -, hsa⟩ := tpId_fields pgnTpDt globalAddr src
  simp only [dtFrame, frame, hsa]

/-- R163 to R165: the BAM path queues its frames only where they all have room. -/
theorem BamqInv.sendBam {s : State} (h : BamqInv s) (p : List Byte) : BamqInv (sendBam p s) := by
  obtain ⟨hlen, hok⟩ := h
  rw [sendBam_eq]
  split_ifs with hfull
  · exact ⟨hlen, hok⟩
  · exact ⟨hlen, hok⟩
  · refine ⟨?_, fun f hf => (List.mem_append.1 hf).elim (hok f) pacedFrame_of_mem_bamData⟩
    have hdata : (bamData (idSa s.argId) p).length = nseg p.length := by simp [bamData]
    change (s.bamq ++ bamData (idSa s.argId) p).length ≤ s.params.bamqDepth
    rw [List.length_append, hdata]
    omega

theorem BamqInv.sendPayload {s : State} (h : BamqInv s) (p : List Byte) : BamqInv (sendPayload p s) := by
  obtain ⟨-, hp⟩ | ⟨-, -, hp⟩ | ⟨-, -, hp⟩ := sendPayload_cases p s <;> rw [hp]
  · rw [sendShort_eq]
    exact h
  · rw [sendRts_frame]
    exact h
  · exact h.sendBam p

theorem BamqInv.tick {s : State} (h : BamqInv s) : BamqInv (tick s) := by
  obtain ⟨hlen, hok⟩ := h
  rw [tick_frame, tick_bamq]
  refine ⟨?_, fun f hf => hok f (List.mem_of_mem_tail hf)⟩
  exact (List.tail_sublist s.bamq).length_le.trans hlen

/-! ### Frames and ticks -/

section
variable {i : Instr} {op : State → State} {s : State}

theorem BusOp.rxsInv (h : BusOp i op) (hrxs : RxsInv s) : RxsInv (op s) := by
  cases h with
  | std | badlen | other | pass => exact hrxs
  | rts prio dst src tlen tseg pgn =>
    rw [handleRts_frame, handleRts_rxs]
    have ha := hrxs.announce .rts prio dst src tlen tseg pgn
    rw [announce_frame] at ha
    exact ha
  | bam => exact hrxs.announce _ _ _ _ _ _ _
  | cts => rw [handleCts_frame]; exact hrxs
  | eomack => rw [handleEomack_frame]; exact hrxs
  | dt => exact hrxs.handleDt _ _ _
  | abort => exact hrxs.erase _
  | tick => rw [tick_frame]; exact hrxs

theorem BusOp.txsInv (h : BusOp i op) (htxs : TxsInv s) : TxsInv (op s) := by
  cases h with
  | std | badlen | other | abort | pass => exact htxs
  | rts => rw [handleRts_frame]; exact htxs
  | bam => rw [handleBam_frame]; exact htxs
  | cts => rw [handleCts_frame]; exact htxs
  | eomack => exact htxs.handleEomack _ _
  | dt => rw [handleDt_frame]; exact htxs
  | tick => rw [tick_frame]; exact htxs

theorem BusOp.bamqInv (h : BusOp i op) (hbamq : BamqInv s) : BamqInv (op s) := by
  cases h with
  | std | badlen | other | abort | pass => exact hbamq
  | rts => rw [handleRts_frame]; exact hbamq
  | bam => rw [handleBam_frame]; exact hbamq
  | cts => rw [handleCts_frame]; exact hbamq
  | eomack => rw [handleEomack_frame]; exact hbamq
  | dt => rw [handleDt_frame]; exact hbamq
  | tick => exact hbamq.tick

/-- The parameters, TXBUF and EN stay, and EN = 1 leaves nothing to say of the disabled block. -/
theorem BusOp.inv (h : BusOp i op) (hon : s.en = true) (hinv : Inv s) : Inv (op s) := by
  obtain ⟨hparams, hmem, hrxs, htxs, hbamq, -⟩ := hinv
  have hf := h.frame s
  have hen : (op s).en = true := by rw [hf]; exact hon
  refine ⟨?_, ?_, h.rxsInv hrxs, h.txsInv htxs, h.bamqInv hbamq, fun hoff => absurd hen (by simp [hoff])⟩
  · rw [hf]; exact hparams
  · rw [hf]; exact hmem

end

/-! ### Host accesses, reset and the step -/

theorem Inv.sendPayload {s : State} (h : Inv s) (hon : s.en = true) {p : List Byte} (hmax : p.length ≤ 1785) :
    Inv (sendPayload p s) := by
  obtain ⟨hparams, hmem, hrxs, htxs, hbamq, -⟩ := h
  have hen : (Machine.sendPayload p s).en = true := by rw [sendPayload_frame]; exact hon
  refine ⟨?_, ?_, ?_, htxs.sendPayload hmax, hbamq.sendPayload p, fun hoff => absurd hen (by simp [hoff])⟩
  · rw [sendPayload_frame]; exact hparams
  · rw [sendPayload_frame]; exact hmem
  · rw [sendPayload_frame]; exact hrxs

/-- R214, R215: a CTRL write leaves EN = 0 only with the tables and the queue empty. -/
theorem Inv.writeCtrl {s : State} (h : Inv s) (w : Word) : Inv (writeCtrl w s) := by
  obtain ⟨hparams, hmem, hrxs, htxs, hbamq, hdis⟩ := h
  by_cases hfalls : s.en = true ∧ w.getLsbD 0 = false
  · rw [writeCtrl_of_falls hfalls]
    exact ⟨hparams, hmem, ⟨.nil, Nat.zero_le _, nofun⟩, ⟨.nil, Nat.zero_le _, nofun⟩, ⟨Nat.zero_le _, nofun⟩,
      fun _ => ⟨rfl, rfl, rfl⟩⟩
  · rw [writeCtrl_of_not_falls hfalls]
    refine ⟨hparams, hmem, hrxs, htxs, hbamq, fun hw => hdis ?_⟩
    by_contra hon
    exact hfalls ⟨by simpa using hon, hw⟩

theorem HostOp.inv {i : Instr} {s u : State} (h : HostOp i s u) (hinv : Inv s) : Inv u := by
  cases h with
  | registers _ hu => rw [hu]; exact hinv
  | argId _ hu => rw [hu]; exact hinv
  | send _ hon hmax => exact hinv.sendPayload hon hmax
  | ctrl w => exact hinv.writeCtrl w
  | status | pvCnt | txerrCnt | dropCnt => exact hinv
  | txbuf off size w =>
    obtain ⟨hparams, hmem, hrest⟩ := hinv
    have hwf := writeLanes_wf hmem off.toNat w 0 size.bytes
    rw [writeLanes_frame]
    exact ⟨hparams, hwf, hrest⟩

/-- R57, R245: the reset block, with parameters in range. -/
theorem inv_resetBlock {s : State} (h : s.params.InRange) : Inv (resetBlock s) :=
  ⟨h, reset_wf, ⟨.nil, Nat.zero_le _, nofun⟩, ⟨.nil, Nat.zero_le _, nofun⟩, ⟨Nat.zero_le _, nofun⟩,
    fun _ => ⟨rfl, rfl, rfl⟩⟩

theorem Effect.inv {i : Instr} {s t : State} (h : Effect i s t) (hinv : Inv s) : Inv t := by
  cases h with
  | host r hop => exact hop.inv hinv
  | bus hop hon => exact hop.inv hon hinv
  | ignored | emitted | function => exact hinv
  | reset => exact inv_resetBlock hinv.1

/-- Settles O48: the suggested parameters are in range. -/
theorem invariantHoldsAtReset : Obligations.InvariantHoldsAtReset :=
  inv_resetBlock (s := State.reset) (by decide)

/-- Settles O49: the invariant does not read the ports, and the effect of every instruction keeps it. -/
theorem everyStepKeepsTheInvariant : Obligations.EveryStepKeepsTheInvariant := by
  intro s t hinv h
  obtain rfl | ⟨i, xs, -, -, heff⟩ := step_effect h
  · exact hinv
  · exact heff.inv (s := withInputs xs s) hinv

end Sys2Proof.Machine
end

section
/-! SUPPORT. TXBUF through the host port (20_memory.md R63, R69): the lanes of a write, and the word of a read or its fault; then
the obligations. -/

namespace Sys2Proof.Machine

/-- R63, R223. -/
theorem exec_wTxbuf (off : Offset) (size : Size) (w : Word) (s : State) :
    exec (.wTxbuf off size w) s = .next (withOut okayOut (writeLanes off.toNat w 0 size.bytes s)) := rfl

/-- Settles O44: the lanes written are those of `txbufByte_writeLanes`. -/
theorem txbufWriteStoresItsLanes : Obligations.TxbufWriteStoresItsLanes := by
  intro off size w s _ _
  refine ⟨_, exec_wTxbuf off size w s, congrArg (withOut okayOut) (writeLanes_frame _ w _ _ s), fun i => ?_⟩
  exact txbufByte_writeLanes off.toNat w 0 size.bytes s i

/-- R69: the lowest lane of a word is the first byte. -/
theorem lane_zero_lanesWord_cons (b : Byte) (bs : List Byte) : lane (lanesWord (b :: bs)) 0 = b := by
  refine BitVec.eq_of_getLsbD_eq fun i hi => ?_
  have hword : i < 32 := by omega
  simp [lane, lanesWord, hi, hword]

/-- R69: the other lanes are those of the bytes after it. -/
theorem lane_succ_lanesWord_cons (b : Byte) (bs : List Byte) {k : Nat} (hk : k < 3) :
    lane (lanesWord (b :: bs)) (k + 1) = lane (lanesWord bs) k := by
  refine BitVec.eq_of_getLsbD_eq fun i hi => ?_
  have hword : 8 * (k + 1) + i < 32 := by omega
  have hhigh : b.getLsbD (8 * (k + 1) + i) = false := BitVec.getLsbD_of_ge b _ (by omega)
  have hback : 8 * (k + 1) + i - 8 = 8 * k + i := by omega
  have hlow : ¬ 8 * (k + 1) + i < 8 := by omega
  simp only [lane, lanesWord, BitVec.getLsbD_extractLsb', BitVec.getLsbD_or, BitVec.getLsbD_shiftLeft,
    BitVec.getLsbD_setWidth, hi, hword, hhigh, hlow, hback]
  simp

/-- R63, R69: a lane of a word is its byte, and 0 where the list has none. -/
theorem lane_lanesWord (bs : List Byte) {k : Nat} (hk : k < 4) : lane (lanesWord bs) k = bs.getD k 0 := by
  induction bs generalizing k with
  | nil => simp [lane, lanesWord]
  | cons b bs ih =>
    cases k with
    | zero => exact lane_zero_lanesWord_cons b bs
    | succ k => rw [lane_succ_lanesWord_cons b bs (by omega), ih (by omega)]; rfl

/-- The byte of an offset at or above 0x800 whose byte is written: 0 past TXBUF (R63). -/
def laneByte (s : State) (off : Nat) : Byte := if off - 0x800 < 1785 then (txbufByte s (off - 0x800)).getD 0 else 0

/-- The bytes of the lanes of a read of `n` bytes. -/
def laneBytes (s : State) (off n : Nat) : List Byte := (List.range n).map fun k => laneByte s (off + k)

theorem readLane_of_written {s : State} {off : Nat} (h : 0x800 ≤ off)
    (hw : off - 0x800 < 1785 → txbufW s (off - 0x800) = true) : readLane s off = .ok (laneByte s off) := by
  rw [readLane_eq s off h, laneByte]
  split_ifs with hi
  · obtain ⟨b, hb⟩ : ∃ b, txbufByte s (off - 0x800) = some b := tblHas_eq_true.1 (hw hi)
    rw [hb]
    rfl
  · rfl

/-- R63: a read whose bytes are all written answers the word of its lanes. -/
theorem exec_rTxbuf_of_written {off : Offset} {size : Size} {s : State} (h : 0x800 ≤ off.toNat)
    (hw : ∀ k < size.bytes, off.toNat + k - 0x800 < 1785 → txbufW s (off.toNat + k - 0x800) = true) :
    exec (.rTxbuf off size) s =
      .next (withOut (.host { resp := .okay, rdata := some (lanesWord (laneBytes s off.toNat size.bytes)) }) s) := by
  have hread : readLanes s off.toNat (laneBytes s off.toNat size.bytes).length = .ok (laneBytes s off.toNat size.bytes) := by
    refine readLanes_ok fun k hk => ?_
    have hk' : k < size.bytes := by simpa [laneBytes] using hk
    simpa [laneBytes] using readLane_of_written (Nat.le_add_right_of_le h) (hw k hk')
  rw [laneBytes, List.length_map, List.length_range, ← laneBytes] at hread
  change execRTxbuf off size s = _
  rw [execRTxbuf, hread]
  rfl

/-- Settles O47: all lanes written, or the lowest unwritten one. -/
theorem txbufReadReturnsItsLanes : Obligations.TxbufReadReturnsItsLanes := by
  refine fun off size s h _ => ⟨fun hw => ?written, fun k hk hin hunw hlow => ?fault⟩
  case written =>
    refine ⟨_, exec_rTxbuf_of_written h hw, fun k hk => ?_⟩
    refine (lane_lanesWord _ hk).trans ?_
    by_cases hlt : k < size.bytes
    · simp [hlt, laneBytes, laneByte]
    · simp [hlt, laneBytes]
  case fault =>
    have hlane := readLane_of_unwritten hin hunw
    rw [Nat.add_sub_cancel' (Nat.le_add_right_of_le h)] at hlane
    exact exec_rTxbuf_eq_fault_iff.2 ⟨_, readLanes_error hk hlane fun j hj =>
      ⟨_, readLane_of_written (Nat.le_add_right_of_le h) fun _ => hlow j hj⟩, rfl⟩

end Sys2Proof.Machine
end

section
/-! SUPPORT. Reassembly over several data frames (41_pdu_segmentation.md R141; 44_tp_receive.md R189 to R195): data frames that
leave a session short but for the last of them complete it as one frame with all their bytes would; then the obligation. -/

namespace Sys2Proof.Machine

/-- The data frames that carry some sequence bytes and segments, as received. -/
def dtInstrs (prio : Prio) (dst src : Byte) (ds : List (Byte × List Byte)) : List Instr :=
  ds.map fun d => .rxDt prio dst src (d.1 :: d.2)

/-- The sequence byte and the segment of each data frame of a payload (R93, R139). -/
def payloadSegments (p : List Byte) (k : Nat) : List (Byte × List Byte) :=
  (List.range k).map fun i => (BitVec.ofNat 8 (i + 1), Machine.segment (i + 1) (tpPad p))

theorem dataFrames_eq (prio : Prio) (dst src : Byte) (p : List Byte) :
    dataFrames prio dst src p = dtInstrs prio dst src (payloadSegments p (nseg p.length)) := by
  simp only [dataFrames, dtInstrs, payloadSegments, List.map_map]
  rfl

/-- R139: the first segments of a payload, joined. -/
theorem flatMap_payloadSegments (p : List Byte) (k : Nat) :
    (payloadSegments p k).flatMap (·.2) = (tpPad p).take (7 * k) := by
  rw [← flatten_chunks, payloadSegments, List.flatMap_def, List.map_map]
  rfl

/-- A session's completion does not depend on how its bytes were split between the buffer and the frames. -/
theorem completeSession_appended {s : State} {e : RxEntry} (src dst : Byte) (bytes buf : List Byte) :
    completeSession { e with buf := e.buf ++ bytes } src dst buf
        { s with rxs := tblInsert s.rxs (pairKey src dst) { e with buf := e.buf ++ bytes } } =
      completeSession e src dst buf s := by
  rw [completeSession_eq, completeSession_eq]
  simp only [tblErase_insert]
  rfl

/-- R190 to R195: frames that leave the session short, then one that completes it. -/
theorem runInstrs_dtInstrs {prio : Prio} {dst src seq : Byte} {bytes : List Byte} {ds : List (Byte × List Byte)}
    {s : State} {e : RxEntry} (hon : s.en = true) (he : tblFind s.rxs (pairKey src dst) = some e)
    (hshort : e.buf.length + (ds.flatMap (·.2)).length < e.tlen.toNat)
    (hfull : e.tlen.toNat ≤ e.buf.length + (ds.flatMap (·.2)).length + bytes.length) :
    runInstrs (dtInstrs prio dst src (ds ++ [(seq, bytes)])) s =
      .next (completeSession e src dst (e.buf ++ ds.flatMap (·.2) ++ bytes) s) := by
  induction ds generalizing s e with
  | nil =>
    have hlen : e.tlen.toNat ≤ e.buf.length + bytes.length := by simpa using hfull
    simp only [dtInstrs, List.nil_append, List.map_cons, List.map_nil, runInstrs, exec_rxDt, whenEnabled_on hon,
      handleDt_of_completing he hlen, List.flatMap_nil, List.append_nil]
  | cons d ds ih =>
    simp only [List.flatMap_cons, List.length_append] at hshort hfull
    have hlen : e.buf.length + d.2.length < e.tlen.toNat := by omega
    have hrest := ih (s := { s with rxs := tblInsert s.rxs (pairKey src dst) { e with buf := e.buf ++ d.2 } })
      (e := { e with buf := e.buf ++ d.2 }) hon ((tblFind_insert _ _ _ _).trans (if_pos rfl))
      (by simp only [List.length_append]; omega) (by simp only [List.length_append]; omega)
    rw [completeSession_appended] at hrest
    simp only [dtInstrs, List.cons_append, List.map_cons, runInstrs, exec_rxDt, whenEnabled_on hon,
      handleDt_of_appending he hlen, List.flatMap_cons] at hrest ⊢
    rw [hrest]
    simp only [List.append_assoc]

/-- R141, R189 to R195: the data frames of a payload complete an empty session of its length with the padded payload. -/
theorem runInstrs_dataFrames {prio : Prio} {dst src : Byte} {p : List Byte} {s : State} {e : RxEntry}
    (hon : s.en = true) (h9 : 9 ≤ p.length) (he : tblFind s.rxs (pairKey src dst) = some e)
    (hlen : e.tlen.toNat = p.length) (hbuf : e.buf = []) :
    runInstrs (dataFrames prio dst src p) s = .next (completeSession e src dst (tpPad p) s) := by
  obtain ⟨m, hm⟩ : ∃ m, nseg p.length = m + 1 := ⟨nseg p.length - 1, by rw [nseg_eq]; omega⟩
  have hsplit : payloadSegments p (m + 1) =
      payloadSegments p m ++ [(BitVec.ofNat 8 (m + 1), Machine.segment (m + 1) (tpPad p))] := by
    simp [payloadSegments, List.range_succ]
  have hpad : (tpPad p).length = 7 * (m + 1) := by rw [length_tpPad, hm]
  have hinit : ((payloadSegments p m).flatMap (·.2)).length = 7 * m := by
    rw [flatMap_payloadSegments, List.length_take, hpad]
    omega
  have hlast : (Machine.segment (m + 1) (tpPad p)).length = 7 := length_segment_tpPad (by omega)
  have hall : (payloadSegments p m).flatMap (·.2) ++ Machine.segment (m + 1) (tpPad p) = tpPad p := by
    have h := flatMap_payloadSegments p (m + 1)
    rw [hsplit, List.flatMap_append, List.flatMap_singleton] at h
    exact h.trans (List.take_of_length_le hpad.le)
  have hbounds : 7 * m < p.length ∧ p.length ≤ 7 * m + 7 := by rw [nseg_eq] at hm; omega
  rw [dataFrames_eq, hm, hsplit, runInstrs_dtInstrs hon he, hbuf, List.nil_append, hall]
  · rw [hbuf, hinit, hlen, List.length_nil]; omega
  · rw [hbuf, hinit, hlen, hlast, List.length_nil]; omega

/-- Settles O34: the frames complete the session, whose PDU is the padded payload cut to the payload. -/
theorem reassemblyDeliversThePayload : Obligations.ReassemblyDeliversThePayload := by
  intro s prio dst src p e hon h9 _ he hlen hbuf pdu
  have hcut : (tpPad p).take e.tlen.toNat = p := by
    rw [hlen]
    exact (List.prefix_iff_eq_take.1 (prefix_tpPad p)).symm
  have hpdu : sessionPdu e src dst p = pdu := by
    rw [sessionPdu, hlen]
    rfl
  rw [runInstrs_dataFrames hon h9 he hlen hbuf, completeSession_eq]
  simp only [hcut, hpdu, withOut_eq]
  refine ⟨fun hnoAck => ?silent, fun hrts hclaimed hgoes => ?acked⟩
  case silent =>
    have hcond : ¬ (e.kind = .rts ∧ isClaimed s dst = true) := by
      rintro ⟨hrts, hclaimed⟩
      simp [hrts, hclaimed] at hnoAck
    rw [if_neg hcond]
  case acked =>
    rw [if_pos ⟨hrts, hclaimed⟩, if_neg (by simp [hgoes])]
    rfl

end Sys2Proof.Machine
end
